-- ==== Sys2Proof/Word.lean ====
section
/-! DEFINITION. The widths of the values the spec names: a phase or frequency word, an output code, a command word. -/

namespace Sys2Proof

/-- A `u64` (R6): every phase, frequency, shift and register value (R17, `W_PH = 64`). -/
abbrev Word := BitVec 64

/-- One byte: an output code (R12) or one byte of a serialised command word (R56). -/
abbrev Byte := BitVec 8

/-- One command word `cmd[79:0]` (R38, R80). -/
abbrev Cmd := BitVec 80

/-- One stored symbol, a value in {0,1,2,3} (R52). -/
abbrev Sym := BitVec 2

end Sys2Proof
end

