-- ==== Sys2Proof/Syntax.lean ====
section
/-! DEFINITION. The seven commands, one constructor per row of spec/opcode_table.json. -/

namespace Sys2Proof

/-- A command (R83). Operand widths are those of R82; the micro-operations have no encoding (R94). -/
inductive Instr where
  /-- NOP (R101). -/
  | nop
  /-- WR `reg`, `data` (R102). -/
  | wr (reg : BitVec 8) (data : Word)
  /-- RD `reg` (R103). -/
  | rd (reg : BitVec 8)
  /-- PUSHF `data` (R104). -/
  | pushf (data : Word)
  /-- PUSHS `data` (R105). -/
  | pushs (data : Word)
  /-- INIT (R106). -/
  | init
  /-- FILL `count` (R120). -/
  | fill (count : BitVec 32)
  deriving DecidableEq, Repr

end Sys2Proof
end

