-- ==== Sys2Proof/WellFormed.lean ====
section
/-! DEFINITION. What a legal command word is, field by field (R85 to R92), stated apart from the decoder. -/

namespace Sys2Proof

/-- The four fields of a command word (R81). -/
structure Fields where
  op : BitVec 4
  rsv : BitVec 4
  reg : BitVec 8
  data : Word
  deriving DecidableEq, Repr

/-- R85 to R91 as one table: which field values each opcode admits; R92: every other word is illegal. -/
def Fields.wellFormed (f : Fields) : Bool :=
  f.rsv == 0 &&
    ((f.op == 0 && f.reg == 0 && f.data == 0) ||
     (f.op == 1) ||
     (f.op == 2 && f.data == 0) ||
     (f.op == 3 && f.reg == 0) ||
     (f.op == 4 && f.reg == 0) ||
     (f.op == 5 && f.reg == 0 && f.data == 0) ||
     (f.op == 6 && f.reg == 0 && f.data.extractLsb' 32 32 == 0))

/-- A command as syntax is well formed when each operand is one its encoding admits. Every operand's type is exactly as
wide as its field (R82: none is sign extended, scaled or split; R86 to R91: "any"), so every command is: what the spec
refuses of an operand (a symbol above 3, an unmapped register) is a rejection at run time, R86 and R89. -/
def Instr.wellFormed : Instr → Bool
  | .nop => true
  | .wr _ _ => true
  | .rd _ => true
  | .pushf _ => true
  | .pushs _ => true
  | .init => true
  | .fill _ => true

end Sys2Proof
end

