-- ==== Sys2Proof/Decode.lean ====
section
/-! DEFINITION. The decoder, total on all command words and byte strings, and the encoder (30_encoding.md). -/

namespace Sys2Proof

/-- Why a word selects no row of R83. The machine answers every one of them with ERR_ILLEGAL_CMD (R92); the names are the
model's [20]. -/
inductive Illegal where
  /-- Opcode 0x7 to 0xF (R93). -/
  | reservedOpcode
  /-- `rsv` is not 0. -/
  | rsvNotZero
  /-- `reg` is not 0 on an opcode that takes no register. -/
  | regNotZero
  /-- `data` is not 0 on an opcode that takes no operand from it. -/
  | dataNotZero
  /-- FILL with `data[63:32]` not 0. -/
  | countTooWide
  /-- A byte string that is not ten bytes long (R56). -/
  | notTenBytes
  deriving DecidableEq, Repr

/-- R81: the fields of a command word. -/
def fieldsOf (w : Cmd) : Fields where
  op := w.extractLsb' 76 4
  rsv := w.extractLsb' 72 4
  reg := w.extractLsb' 64 8
  data := w.extractLsb' 0 64

/-- The must-be-zero check of `reg` and `data` that most rows make (R85, R88 to R91). -/
def needZero (reg : BitVec 8) (data : Word) (i : Instr) : Except Illegal Instr :=
  if reg ≠ 0 then .error .regNotZero else if data ≠ 0 then .error .dataNotZero else .ok i

/-- R83 to R92, stage 1 of R84: the row a word's fields select. -/
def decodeFields (f : Fields) : Except Illegal Instr :=
  if f.rsv ≠ 0 then .error .rsvNotZero
  else match f.op.toNat with
    | 0 => needZero f.reg f.data .nop
    | 1 => .ok (.wr f.reg f.data)
    | 2 => needZero 0 f.data (.rd f.reg)
    | 3 => needZero f.reg 0 (.pushf f.data)
    | 4 => needZero f.reg 0 (.pushs f.data)
    | 5 => needZero f.reg f.data .init
    | 6 =>
      if f.reg ≠ 0 then .error .regNotZero
      else if f.data.extractLsb' 32 32 ≠ 0 then .error .countTooWide
      else .ok (.fill (f.data.extractLsb' 0 32))
    | _ => .error .reservedOpcode

/-- The command a word stands for, or why it stands for none. -/
def decode (w : Cmd) : Except Illegal Instr := decodeFields (fieldsOf w)

/-- R81: `cmd = (op << 76) | (rsv << 72) | (reg << 64) | data`. -/
def wordOf (f : Fields) : Cmd := (f.op ++ f.rsv ++ f.reg ++ f.data).cast (by decide)

/-- R83, R85 to R91: a command's fields. -/
def fieldsOfInstr : Instr → Fields
  | .nop => ⟨0, 0, 0, 0⟩
  | .wr reg data => ⟨1, 0, reg, data⟩
  | .rd reg => ⟨2, 0, reg, 0⟩
  | .pushf data => ⟨3, 0, 0, data⟩
  | .pushs data => ⟨4, 0, 0, data⟩
  | .init => ⟨5, 0, 0, 0⟩
  | .fill count => ⟨6, 0, 0, count.setWidth 64⟩

/-- The command word of a command. -/
def encode (i : Instr) : Cmd := wordOf (fieldsOfInstr i)

/-- R83's mask of a command's row, as spec/opcode_table.json lists it. -/
def rowMask : Instr → Cmd
  | .nop => 0xFFFFFFFFFFFFFFFFFFFF
  | .wr _ _ => 0xFF000000000000000000
  | .rd _ => 0xFF00FFFFFFFFFFFFFFFF
  | .pushf _ => 0xFFFF0000000000000000
  | .pushs _ => 0xFFFF0000000000000000
  | .init => 0xFFFFFFFFFFFFFFFFFFFF
  | .fill _ => 0xFFFFFFFFFFFF00000000

/-- R83's match of a command's row, as spec/opcode_table.json lists it. -/
def rowMatch : Instr → Cmd
  | .nop => 0x00000000000000000000
  | .wr _ _ => 0x10000000000000000000
  | .rd _ => 0x20000000000000000000
  | .pushf _ => 0x30000000000000000000
  | .pushs _ => 0x40000000000000000000
  | .init => 0x50000000000000000000
  | .fill _ => 0x60000000000000000000

/-- R56: a command word as ten bytes, least significant byte first. -/
def bytesOf (w : Cmd) : List Byte := (List.range 10).map fun k => w.extractLsb' (8 * k) 8

/-- The number whose bytes, least significant first, are the list. -/
def numberOfBytes : List Byte → Nat
  | [] => 0
  | b :: bs => b.toNat + 256 * numberOfBytes bs

/-- R56, R80: a command given as a byte string: exactly ten bytes, least significant first. -/
def decodeBytes (bs : List Byte) : Except Illegal Instr :=
  if bs.length = 10 then decode (BitVec.ofNat 80 (numberOfBytes bs)) else .error .notTenBytes

/-- The command word whose low `nbits` bits are those of `w` and whose other bits are 0. -/
def tableWord (nbits w : Nat) : Cmd := BitVec.ofNat 80 (w % 2 ^ nbits)

/-- The decoder's answer for an opcode-table word: the one word is the whole command (R80), laid out as R56 does. -/
def decodeTableWord (nbits w : Nat) : Option Instr :=
  match decodeBytes (bytesOf (tableWord nbits w)) with
  | .ok i => some i
  | .error _ => none

end Sys2Proof
end

