-- ==== Sys2Proof/Config.lean ====
section
/-! DEFINITION. The parameters of 00_scope.md section 4 that this model fixes, and the free values (opaque, no body). -/

namespace Sys2Proof.Config

/-- `TSHIFT = W_PH - S = 54` (R10, R18): a phase's table index is its bits from here up.
DESIGN CHOICE [8]: `S` is fixed at 10, the value this hardware takes. Safe. -/
def tShift : Nat := 54

/-- `PD_SHIFT = 48 - S = 38` (R18): the place of the phase dither field. -/
def pdShift : Nat := 38

/-- `2^W_FRAC` (R11): one output step in units of a ROM word. -/
def outStep : Int := 256

/-- `MID`, the "no signal" code and the quantizer's bias (R14, R150). -/
def mid : Byte := 128

/-- `LCG_C` (R15). DESIGN CHOICE [8]: fixed at the value this hardware takes. Safe. -/
def lcgC : Word := 6364136223846793005

/-- `LCG_INC` (R15). -/
def lcgInc : Word := 1

/-- The default of the open parameter `LCG_SEED` (R16); a state carries the seed itself [7]. -/
def lcgSeedDefault : Word := 0

/-- `NSYM` (R17). -/
def nsym : Nat := 162

/-- `MAXF` (R17). -/
def maxf : Nat := 16

/-- `PERIOD` (R17). -/
def period : Nat := 120

/-- `PHASE_SEC` (R17). -/
def phaseSec : Nat := 1

/-- Free value [9]: what `FTAB[k]` reads as for `k >= 16`, an index the spec says cannot be produced (R57). -/
opaque ftabOutside : Nat → Word

/-- Free value [9]: what `STAB[k]` reads as for `k >= 162`; no step of the machine asks for it (R124). -/
opaque stabOutside : Nat → Sym

/-- Free value [9]: `(band_index + 1) mod freq_count` for `freq_count = 0`, which READY excludes (R123). -/
opaque bandModZero : BitVec 32 → BitVec 32

/-- Free value [6]: FTAB entry `k` after the `n`-th `rst` edge (R46, R190: "unspecified"). -/
opaque ftabUnspecified : Nat → Nat → Word

/-- Free value [6]: STAB entry `k` after the `n`-th `rst` edge (R46, R190: "unspecified"). -/
opaque stabUnspecified : Nat → Nat → Sym

end Sys2Proof.Config
end

