-- ==== Sys2Proof/Machine/State.lean ====
section
/-! DEFINITION. The state of the core as plain data (R20, R37, the stores R52 and R53, the ports R38, R39, R43, R44), the
names of its registers and error codes, the outcomes a step can stop with, and the state after reset (R46). -/

namespace Sys2Proof.Machine

/-- The error codes 1 to 8 of R171, in the table's order. -/
inductive ErrCode where
  | illegalCmd
  | locked
  | notReady
  | badAddr
  | badValue
  | cfgNoFreq
  | cfgTooManyFreq
  | cfgSymlen
  deriving DecidableEq, Repr

/-- The mapped registers of R40. -/
inductive RegName where
  | ftab (k : Fin 16)
  | symbolStep
  | shift1
  | shift2
  | ctrl
  | status
  | phase
  | freq
  | lcg
  | symbolPhase
  | symbolIndex
  | baseFreq
  | bandIndex
  | freqCount
  | symCount
  | stab (k : Fin 162)
  deriving DecidableEq, Repr

/-- One transfer on the command port (R38): `cmd[79:0]`, and the value of `wall_sec` in the cycle of its acceptance (R43). -/
structure Transfer where
  word : Cmd
  wallSec : Word
  deriving DecidableEq, Repr

/-- One response (R39): `rsp_code[3:0]` and `rsp_data[63:0]`. -/
structure Response where
  code : BitVec 4
  data : Word
  deriving DecidableEq, Repr

/-- One beat on the output port (R44): the three codes of one sample and `out_last`. -/
structure Beat where
  ch0 : Byte
  ch1 : Byte
  ch2 : Byte
  last : Bool
  deriving DecidableEq, Repr

/-- What the core does next: the host's reset edge (R190), the rest of a FILL that a stalled output port left (R199), nothing
(R183), or the next command of the port (R38). -/
inductive Work where
  | resetEdge
  | resume
  | idle
  | command (t : Transfer) (rest : List Transfer)
  deriving DecidableEq, Repr

/-- No step of this core stops with a fault: every command completes or is rejected, and a rejection is a next state (R170,
R178). The type has no constructor. -/
inductive Fault where
  deriving DecidableEq, Repr

/-- Why the model gives no meaning. -/
inductive Refusal where
  /-- Raised by `exec` alone, for an instruction of the opcode table that has no meaning yet. Safe: the model stops. -/
  | notModelled (mnemonic : String)
  deriving DecidableEq, Repr

/-- The core's state. The first seventeen fields are the record of R20; then the two stores of R50; then the host's lines;
then what has left the core on its two output ports; then the model's two own fields. -/
structure State where
  /-- R21. -/
  phase : Word
  /-- R22. -/
  freq : Word
  /-- R23. -/
  lcg : Word
  /-- R24. -/
  symbolPhase : Word
  /-- R25. -/
  symbolStep : Word
  /-- R26. -/
  baseFreq : Word
  /-- R27. -/
  shift1 : Word
  /-- R27. -/
  shift2 : Word
  /-- R28. -/
  swapOnStart : Bool
  /-- R29. -/
  active : Bool
  /-- R30. -/
  symbolIndex : BitVec 32
  /-- R31. -/
  bandIndex : BitVec 32
  /-- R32. -/
  freqCount : BitVec 5
  /-- R33. -/
  symCount : BitVec 8
  /-- R34. -/
  ready : Bool
  /-- R35: the flag of error code `c` is bit `c - 1`. -/
  errflags : BitVec 8
  /-- R37. -/
  fillRemaining : BitVec 32
  /-- R53. -/
  ftab : Vector Word 16
  /-- R52. -/
  stab : Vector Sym 162
  /-- The input `rst` (R190). -/
  rst : Bool
  /-- The command port (R38): the transfers the host presents, oldest first; empty while `cmd_valid` is 0 [1]. -/
  cmdPort : List Transfer
  /-- The input line `wall_sec` (R43); the host drives a transfer's value in the cycle of its acceptance, and only an accepted
  FILL reads the line [18]. -/
  wallSec : Word
  /-- The input `out_ready` (R44): how many more beats the host takes before it holds the line at 0 (none: it takes all) [3]. -/
  hostTakes : Option Nat
  /-- Every response given (R39), oldest first [2]. -/
  responses : List Response
  /-- Every beat taken (R44, R55), in order [2]. -/
  beats : List Beat
  /-- The open parameter `LCG_SEED` (R16), written by no step [7]. -/
  lcgSeed : Word
  /-- The model's own count of reset edges, which makes each one's store contents fresh free values [10]. -/
  resets : Nat
  deriving DecidableEq, Repr

/-- The core right after reset (R46, R190). The spec leaves the stores' contents unspecified and unreadable: DESIGN CHOICE
zeros, unsafe [5]. The host's lines are quiet: DESIGN CHOICE [11]. The seed is the default of R16 [7]. -/
def State.reset : State where
  phase := 0
  freq := 0
  lcg := 0
  symbolPhase := 0
  symbolStep := 0
  baseFreq := 0
  shift1 := 0
  shift2 := 0
  swapOnStart := false
  active := false
  symbolIndex := 0
  bandIndex := 0
  freqCount := 0
  symCount := 0
  ready := false
  errflags := 0
  fillRemaining := 0
  ftab := Vector.replicate 16 0
  stab := Vector.replicate 162 0
  rst := false
  cmdPort := []
  wallSec := 0
  hostTakes := none
  responses := []
  beats := []
  lcgSeed := Config.lcgSeedDefault
  resets := 0

end Sys2Proof.Machine
end

