-- ==== Sys2Proof/Machine/Flags.lean ====
section
/-! DEFINITION. The error codes' numbers, the sticky flags (R171, R172), and the STATUS and CTRL words (R41, R42). -/

namespace Sys2Proof.Machine

/-- R171: the response code of an error. -/
def errNumber : ErrCode → Nat
  | .illegalCmd => 1
  | .locked => 2
  | .notReady => 3
  | .badAddr => 4
  | .badValue => 5
  | .cfgNoFreq => 6
  | .cfgTooManyFreq => 7
  | .cfgSymlen => 8

/-- R39: the code as `rsp_code[3:0]` carries it. -/
def rspCode (e : ErrCode) : BitVec 4 := BitVec.ofNat 4 (errNumber e)

/-- `errflags[c]` (R35). -/
def errFlag (flags : BitVec 8) (e : ErrCode) : Bool := flags.getLsbD (errNumber e - 1)

/-- R172: `errflags[c] <- 1`. -/
def setErrFlag (flags : BitVec 8) (e : ErrCode) : BitVec 8 := flags ||| BitVec.twoPow 8 (errNumber e - 1)

/-- R41: bit 0 `ready`, bit 1 `active`, bit 2 `swap_on_start`, bits 7:3 zero, bit `7 + c` the flag of code `c`, rest zero. -/
def statusWord (s : State) : Word :=
  (0#48 ++ s.errflags ++ 0#5 ++ BitVec.ofBool s.swapOnStart ++ BitVec.ofBool s.active ++ BitVec.ofBool s.ready).cast
    (by decide)

/-- R42, read: bit 0 is `swap_on_start`, bits 63:1 read 0. -/
def ctrlWord (s : State) : Word := (BitVec.ofBool s.swapOnStart).setWidth 64

/-- R42, write: the reserved bits 63:1 of the data. -/
def ctrlReserved (data : Word) : BitVec 63 := data.extractLsb' 1 63

end Sys2Proof.Machine
end

