-- ==== Sys2Proof/Machine/Ops.lean ====
section
/-! DEFINITION. The shared operations: responding, rejecting (what stands in the place of taking an exception, R170, R178),
reading and writing the two stores, the saturating counters, emitting a beat, accepting a command, the reset edge. -/

namespace Sys2Proof.Machine

/-- `respond OK(data)` (R8, R39). -/
def respond (data : Word) (s : State) : State :=
  { s with responses := s.responses ++ [{ code := 0, data := data }] }

/-- `reject <ERR_x>` (R8, R172, R173, R178): the sticky flag, the response `(code, 0)`, and nothing else. There is no vector
and nothing to return from (R178, R179). -/
def reject (e : ErrCode) (s : State) : State :=
  { s with errflags := setErrFlag s.errflags e
           responses := s.responses ++ [{ code := rspCode e, data := 0 }] }

/-- `FTAB[k]` (R53). An index of 16 or more cannot be produced (R57): a free value [9]. -/
def ftabRead (s : State) (k : Nat) : Word :=
  if h : k < 16 then s.ftab[k] else Config.ftabOutside k

/-- `STAB[k]` (R52). No step asks for an index of 162 or more (R124): a free value [9]. -/
def stabRead (s : State) (k : Nat) : Sym :=
  if h : k < 162 then s.stab[k] else Config.stabOutside k

/-- `FTAB[k] <- v` for `k < 16` (R104); nothing is stored beyond the last entry. -/
def ftabWrite (k : Nat) (v : Word) (s : State) : State :=
  { s with ftab := s.ftab.setIfInBounds k v }

/-- `STAB[k] <- v` for `k < 162` (R105); nothing is stored beyond the last entry. -/
def stabWrite (k : Nat) (v : Sym) (s : State) : State :=
  { s with stab := s.stab.setIfInBounds k v }

/-- `freq_count <- min(freq_count + 1, 31)` (R32, R104). -/
def countFreq (c : BitVec 5) : BitVec 5 := BitVec.ofNat 5 (min (c.toNat + 1) 31)

/-- `sym_count <- min(sym_count + 1, 255)` (R33, R105). -/
def countSym (c : BitVec 8) : BitVec 8 := BitVec.ofNat 8 (min (c.toNat + 1) 255)

/-- `emit(c0, c1, c2)` (R8, R44, R55): one more beat on the output port, one fewer that the host will still take. -/
def emit (b : Beat) (s : State) : State :=
  { s with beats := s.beats ++ [b], hostTakes := s.hostTakes.map (· - 1) }

/-- `out_ready` (R44): the host takes the next beat. -/
def outReady (s : State) : Bool := s.hostTakes != some 0

/-- `cmd_ready` (R37, R38): no command is in execution. -/
def cmdReady (s : State) : Bool := s.fillRemaining == 0

/-- `out_last` (R44): 1 on the last beat of a FILL. -/
def outLast (s : State) : Bool := s.fillRemaining == 1

/-- The acceptance of a command (R38): its word leaves the port, the host driving `wall_sec` in that cycle (R43) [18]. -/
def accept (t : Transfer) (rest : List Transfer) (s : State) : State :=
  { s with cmdPort := rest, wallSec := t.wallSec }

/-- A rising edge with `rst = 1` (R190): every variable takes its reset value, a running command is abandoned without a
response, the stores' contents are unspecified (free values [6]). What already left the core stays taken, the host's lines
are the host's, and the edge uses up the host's `rst` [4], [16]. -/
def resetEdge (s : State) : State :=
  { State.reset with
    ftab := Vector.ofFn fun k => Config.ftabUnspecified s.resets k
    stab := Vector.ofFn fun k => Config.stabUnspecified s.resets k
    rst := false
    cmdPort := s.cmdPort
    wallSec := s.wallSec
    hostTakes := s.hostTakes
    responses := s.responses
    beats := s.beats
    lcgSeed := s.lcgSeed
    resets := s.resets + 1 }

/-- What the core does next. `rst` comes first (R190); a FILL in progress accepts no command (R37, R198); without a command
the core holds its state (R183). -/
def nextWork (s : State) : Work :=
  if s.rst then .resetEdge
  else if s.fillRemaining ≠ 0 then .resume
  else match s.cmdPort with
    | [] => .idle
    | t :: rest => .command t rest

/-- The host presents a command word ahead of what it was going to present, to a core that is out of reset and free to take
it (R38, R184) [12]. -/
def present (w : Cmd) (s : State) : State :=
  { s with rst := false, fillRemaining := 0, cmdPort := { word := w, wallSec := s.wallSec } :: s.cmdPort }

end Sys2Proof.Machine
end

