-- ==== Sys2Proof/Machine/Operands.lean ====
section
/-! DEFINITION. The operand forms: the register address space (R40, R54) for RD and WR, and PUSHS's symbol (R82, R105). -/

namespace Sys2Proof.Machine

/-- The address of a register (R40). -/
def regAddr : RegName → BitVec 8
  | .ftab k => BitVec.ofNat 8 k.val
  | .symbolStep => 0x10
  | .shift1 => 0x11
  | .shift2 => 0x12
  | .ctrl => 0x13
  | .status => 0x20
  | .phase => 0x21
  | .freq => 0x22
  | .lcg => 0x23
  | .symbolPhase => 0x24
  | .symbolIndex => 0x25
  | .baseFreq => 0x26
  | .bandIndex => 0x27
  | .freqCount => 0x28
  | .symCount => 0x29
  | .stab k => BitVec.ofNat 8 (0x40 + k.val)

/-- The registers 0x10 to 0x13 and 0x20 to 0x29 of R40, by address. -/
def namedReg : Nat → Option RegName
  | 0x10 => some .symbolStep
  | 0x11 => some .shift1
  | 0x12 => some .shift2
  | 0x13 => some .ctrl
  | 0x20 => some .status
  | 0x21 => some .phase
  | 0x22 => some .freq
  | 0x23 => some .lcg
  | 0x24 => some .symbolPhase
  | 0x25 => some .symbolIndex
  | 0x26 => some .baseFreq
  | 0x27 => some .bandIndex
  | 0x28 => some .freqCount
  | 0x29 => some .symCount
  | _ => none

/-- The register at an address (R40); none for the unmapped ranges 0x14 to 0x1F, 0x2A to 0x3F, 0xE2 to 0xFF. -/
def regAt (a : BitVec 8) : Option RegName :=
  if h : a.toNat < 16 then some (.ftab ⟨a.toNat, h⟩)
  else if h : 0x40 ≤ a.toNat ∧ a.toNat - 0x40 < 162 then some (.stab ⟨a.toNat - 0x40, h.2⟩)
  else namedReg a.toNat

/-- The value RD answers for a register (R40, R103); none for a store entry nothing has written since reset. -/
def readReg (s : State) : RegName → Option Word
  | .ftab k => if k.val < s.freqCount.toNat then some (ftabRead s k.val) else none
  | .symbolStep => some s.symbolStep
  | .shift1 => some s.shift1
  | .shift2 => some s.shift2
  | .ctrl => some (ctrlWord s)
  | .status => some (statusWord s)
  | .phase => some s.phase
  | .freq => some s.freq
  | .lcg => some s.lcg
  | .symbolPhase => some s.symbolPhase
  | .symbolIndex => some (s.symbolIndex.setWidth 64)
  | .baseFreq => some s.baseFreq
  | .bandIndex => some (s.bandIndex.setWidth 64)
  | .freqCount => some (s.freqCount.setWidth 64)
  | .symCount => some (s.symCount.setWidth 64)
  | .stab k => if k.val < s.symCount.toNat then some ((stabRead s k.val).setWidth 64) else none

/-- WR's write (R102), or the error for which it is rejected: an address without W access, or a reserved bit of CTRL. -/
def writeReg (s : State) (data : Word) : Option RegName → Except ErrCode State
  | some .symbolStep => .ok { s with symbolStep := data }
  | some .shift1 => .ok { s with shift1 := data }
  | some .shift2 => .ok { s with shift2 := data }
  | some .ctrl =>
    if ctrlReserved data ≠ 0 then .error .badValue else .ok { s with swapOnStart := data.getLsbD 0 }
  | _ => .error .badAddr

/-- PUSHS's operand (R82, R105): `data` as one unsigned number, accepted only if at most 3. -/
def symbolOperand (data : Word) : Option Sym :=
  if data.toNat > 3 then none else some (data.extractLsb' 0 2)

end Sys2Proof.Machine
end

