-- ==== Sys2Proof/Machine/Configure.lean ====
section
/-! DEFINITION. The commands NOP, WR, RD, PUSHF, PUSHS and INIT (40_config_commands.md). -/

namespace Sys2Proof.Machine

/-- NOP (R101). -/
def execNop (s : State) : Host.Outcome State Fault Refusal := .next (respond 0 s)

/-- WR `reg`, `data` (R102): lifecycle, then address, then value (R84). -/
def execWr (reg : BitVec 8) (data : Word) (s : State) : Host.Outcome State Fault Refusal :=
  if s.ready then .next (reject .locked s)
  else match writeReg s data (regAt reg) with
    | .ok s' => .next (respond 0 s')
    | .error e => .next (reject e s)

/-- RD `reg` (R103), in both lifecycle phases. -/
def execRd (reg : BitVec 8) (s : State) : Host.Outcome State Fault Refusal :=
  match (regAt reg).bind (readReg s) with
  | some v => .next (respond v s)
  | none => .next (reject .badAddr s)

/-- PUSHF `data` (R104). -/
def execPushf (data : Word) (s : State) : Host.Outcome State Fault Refusal :=
  if s.ready then .next (reject .locked s)
  else .next (respond 0 { ftabWrite s.freqCount.toNat data s with freqCount := countFreq s.freqCount })

/-- PUSHS `data` (R105). -/
def execPushs (data : Word) (s : State) : Host.Outcome State Fault Refusal :=
  if s.ready then .next (reject .locked s)
  else match symbolOperand data with
    | none => .next (reject .badValue s)
    | some v => .next (respond 0 { stabWrite s.symCount.toNat v s with symCount := countSym s.symCount })

/-- The first of INIT's configuration checks that fails, in R106's order. -/
def initCheck (s : State) : Option ErrCode :=
  if s.freqCount.toNat = 0 then some .cfgNoFreq
  else if s.freqCount.toNat > Config.maxf then some .cfgTooManyFreq
  else if s.symCount.toNat ≠ Config.nsym then some .cfgSymlen
  else none

/-- The nine variables a successful INIT writes (R106). -/
def initialise (s : State) : State :=
  { s with
    phase := 0
    freq := 0
    lcg := s.lcgSeed
    symbolPhase := 0
    symbolIndex := 0
    baseFreq := 0
    bandIndex := 0
    active := false
    ready := true }

/-- INIT (R106). -/
def execInit (s : State) : Host.Outcome State Fault Refusal :=
  if s.ready then .next (reject .locked s)
  else match initCheck s with
    | some e => .next (reject e s)
    | none => .next (respond 0 (initialise s))

end Sys2Proof.Machine
end

