-- ==== Sys2Proof/Machine/SineRom.lean ====
section
/-! DEFINITION. The sine ROM (R51, R72): the 1024 words in index order, sixteen per row, as 21_sine_rom.md lists them. -/

namespace Sys2Proof.Machine

/-- R72: words 0 to 127. -/
def sineRows0 : List (List Int) :=
  [[0, 199, 399, 598, 798, 997, 1197, 1396, 1595, 1795, 1994, 2193, 2392, 2591, 2789, 2988],
   [3187, 3385, 3584, 3782, 3980, 4178, 4375, 4573, 4771, 4968, 5165, 5362, 5558, 5755, 5951, 6147],
   [6343, 6538, 6734, 6929, 7123, 7318, 7512, 7706, 7900, 8093, 8286, 8479, 8671, 8863, 9055, 9247],
   [9438, 9628, 9819, 10009, 10198, 10388, 10576, 10765, 10953, 11141, 11328, 11515, 11701, 11887, 12072, 12257],
   [12442, 12626, 12809, 12993, 13175, 13357, 13539, 13720, 13901, 14081, 14260, 14439, 14618, 14796, 14973, 15150],
   [15326, 15502, 15677, 15851, 16025, 16198, 16371, 16543, 16715, 16885, 17055, 17225, 17394, 17562, 17730, 17896],
   [18063, 18228, 18393, 18557, 18721, 18883, 19045, 19207, 19367, 19527, 19686, 19845, 20002, 20159, 20315, 20471],
   [20625, 20779, 20932, 21085, 21236, 21387, 21536, 21686, 21834, 21981, 22128, 22273, 22418, 22562, 22706, 22848]]

/-- R72: words 128 to 255. -/
def sineRows1 : List (List Int) :=
  [[22989, 23130, 23270, 23409, 23547, 23684, 23820, 23955, 24090, 24223, 24356, 24488, 24618, 24748, 24877, 25005],
   [25132, 25258, 25383, 25508, 25631, 25753, 25874, 25995, 26114, 26232, 26350, 26466, 26581, 26696, 26809, 26921],
   [27033, 27143, 27252, 27361, 27468, 27574, 27679, 27783, 27886, 27989, 28089, 28189, 28288, 28386, 28483, 28578],
   [28673, 28767, 28859, 28950, 29041, 29130, 29218, 29305, 29390, 29475, 29559, 29641, 29723, 29803, 29882, 29960],
   [30037, 30113, 30188, 30261, 30333, 30405, 30475, 30544, 30611, 30678, 30744, 30808, 30871, 30933, 30994, 31054],
   [31112, 31169, 31226, 31280, 31334, 31387, 31438, 31489, 31538, 31586, 31632, 31678, 31722, 31765, 31807, 31848],
   [31887, 31926, 31963, 31999, 32033, 32067, 32099, 32130, 32160, 32189, 32216, 32242, 32267, 32291, 32314, 32335],
   [32355, 32374, 32392, 32409, 32424, 32438, 32451, 32462, 32473, 32482, 32490, 32497, 32502, 32506, 32510, 32511]]

/-- R72: words 256 to 383. -/
def sineRows2 : List (List Int) :=
  [[32512, 32511, 32510, 32506, 32502, 32497, 32490, 32482, 32473, 32462, 32451, 32438, 32424, 32409, 32392, 32374],
   [32355, 32335, 32314, 32291, 32267, 32242, 32216, 32189, 32160, 32130, 32099, 32067, 32033, 31999, 31963, 31926],
   [31887, 31848, 31807, 31765, 31722, 31678, 31632, 31586, 31538, 31489, 31438, 31387, 31334, 31280, 31226, 31169],
   [31112, 31054, 30994, 30933, 30871, 30808, 30744, 30678, 30611, 30544, 30475, 30405, 30333, 30261, 30188, 30113],
   [30037, 29960, 29882, 29803, 29723, 29641, 29559, 29475, 29390, 29305, 29218, 29130, 29041, 28950, 28859, 28767],
   [28673, 28578, 28483, 28386, 28288, 28189, 28089, 27989, 27886, 27783, 27679, 27574, 27468, 27361, 27252, 27143],
   [27033, 26921, 26809, 26696, 26581, 26466, 26350, 26232, 26114, 25995, 25874, 25753, 25631, 25508, 25383, 25258],
   [25132, 25005, 24877, 24748, 24618, 24488, 24356, 24223, 24090, 23955, 23820, 23684, 23547, 23409, 23270, 23130]]

/-- R72: words 384 to 511. -/
def sineRows3 : List (List Int) :=
  [[22989, 22848, 22706, 22562, 22418, 22273, 22128, 21981, 21834, 21686, 21536, 21387, 21236, 21085, 20932, 20779],
   [20625, 20471, 20315, 20159, 20002, 19845, 19686, 19527, 19367, 19207, 19045, 18883, 18721, 18557, 18393, 18228],
   [18063, 17896, 17730, 17562, 17394, 17225, 17055, 16885, 16715, 16543, 16371, 16198, 16025, 15851, 15677, 15502],
   [15326, 15150, 14973, 14796, 14618, 14439, 14260, 14081, 13901, 13720, 13539, 13357, 13175, 12993, 12809, 12626],
   [12442, 12257, 12072, 11887, 11701, 11515, 11328, 11141, 10953, 10765, 10576, 10388, 10198, 10009, 9819, 9628],
   [9438, 9247, 9055, 8863, 8671, 8479, 8286, 8093, 7900, 7706, 7512, 7318, 7123, 6929, 6734, 6538],
   [6343, 6147, 5951, 5755, 5558, 5362, 5165, 4968, 4771, 4573, 4375, 4178, 3980, 3782, 3584, 3385],
   [3187, 2988, 2789, 2591, 2392, 2193, 1994, 1795, 1595, 1396, 1197, 997, 798, 598, 399, 199]]

/-- R72: words 512 to 639. -/
def sineRows4 : List (List Int) :=
  [[0, -199, -399, -598, -798, -997, -1197, -1396, -1595, -1795, -1994, -2193, -2392, -2591, -2789, -2988],
   [-3187, -3385, -3584, -3782, -3980, -4178, -4375, -4573, -4771, -4968, -5165, -5362, -5558, -5755, -5951, -6147],
   [-6343, -6538, -6734, -6929, -7123, -7318, -7512, -7706, -7900, -8093, -8286, -8479, -8671, -8863, -9055, -9247],
   [-9438, -9628, -9819, -10009, -10198, -10388, -10576, -10765, -10953, -11141, -11328, -11515, -11701, -11887, -12072, -12257],
   [-12442, -12626, -12809, -12993, -13175, -13357, -13539, -13720, -13901, -14081, -14260, -14439, -14618, -14796, -14973, -15150],
   [-15326, -15502, -15677, -15851, -16025, -16198, -16371, -16543, -16715, -16885, -17055, -17225, -17394, -17562, -17730, -17896],
   [-18063, -18228, -18393, -18557, -18721, -18883, -19045, -19207, -19367, -19527, -19686, -19845, -20002, -20159, -20315, -20471],
   [-20625, -20779, -20932, -21085, -21236, -21387, -21536, -21686, -21834, -21981, -22128, -22273, -22418, -22562, -22706, -22848]]

/-- R72: words 640 to 767. -/
def sineRows5 : List (List Int) :=
  [[-22989, -23130, -23270, -23409, -23547, -23684, -23820, -23955, -24090, -24223, -24356, -24488, -24618, -24748, -24877, -25005],
   [-25132, -25258, -25383, -25508, -25631, -25753, -25874, -25995, -26114, -26232, -26350, -26466, -26581, -26696, -26809, -26921],
   [-27033, -27143, -27252, -27361, -27468, -27574, -27679, -27783, -27886, -27989, -28089, -28189, -28288, -28386, -28483, -28578],
   [-28673, -28767, -28859, -28950, -29041, -29130, -29218, -29305, -29390, -29475, -29559, -29641, -29723, -29803, -29882, -29960],
   [-30037, -30113, -30188, -30261, -30333, -30405, -30475, -30544, -30611, -30678, -30744, -30808, -30871, -30933, -30994, -31054],
   [-31112, -31169, -31226, -31280, -31334, -31387, -31438, -31489, -31538, -31586, -31632, -31678, -31722, -31765, -31807, -31848],
   [-31887, -31926, -31963, -31999, -32033, -32067, -32099, -32130, -32160, -32189, -32216, -32242, -32267, -32291, -32314, -32335],
   [-32355, -32374, -32392, -32409, -32424, -32438, -32451, -32462, -32473, -32482, -32490, -32497, -32502, -32506, -32510, -32511]]

/-- R72: words 768 to 895. -/
def sineRows6 : List (List Int) :=
  [[-32512, -32511, -32510, -32506, -32502, -32497, -32490, -32482, -32473, -32462, -32451, -32438, -32424, -32409, -32392, -32374],
   [-32355, -32335, -32314, -32291, -32267, -32242, -32216, -32189, -32160, -32130, -32099, -32067, -32033, -31999, -31963, -31926],
   [-31887, -31848, -31807, -31765, -31722, -31678, -31632, -31586, -31538, -31489, -31438, -31387, -31334, -31280, -31226, -31169],
   [-31112, -31054, -30994, -30933, -30871, -30808, -30744, -30678, -30611, -30544, -30475, -30405, -30333, -30261, -30188, -30113],
   [-30037, -29960, -29882, -29803, -29723, -29641, -29559, -29475, -29390, -29305, -29218, -29130, -29041, -28950, -28859, -28767],
   [-28673, -28578, -28483, -28386, -28288, -28189, -28089, -27989, -27886, -27783, -27679, -27574, -27468, -27361, -27252, -27143],
   [-27033, -26921, -26809, -26696, -26581, -26466, -26350, -26232, -26114, -25995, -25874, -25753, -25631, -25508, -25383, -25258],
   [-25132, -25005, -24877, -24748, -24618, -24488, -24356, -24223, -24090, -23955, -23820, -23684, -23547, -23409, -23270, -23130]]

/-- R72: words 896 to 1023. -/
def sineRows7 : List (List Int) :=
  [[-22989, -22848, -22706, -22562, -22418, -22273, -22128, -21981, -21834, -21686, -21536, -21387, -21236, -21085, -20932, -20779],
   [-20625, -20471, -20315, -20159, -20002, -19845, -19686, -19527, -19367, -19207, -19045, -18883, -18721, -18557, -18393, -18228],
   [-18063, -17896, -17730, -17562, -17394, -17225, -17055, -16885, -16715, -16543, -16371, -16198, -16025, -15851, -15677, -15502],
   [-15326, -15150, -14973, -14796, -14618, -14439, -14260, -14081, -13901, -13720, -13539, -13357, -13175, -12993, -12809, -12626],
   [-12442, -12257, -12072, -11887, -11701, -11515, -11328, -11141, -10953, -10765, -10576, -10388, -10198, -10009, -9819, -9628],
   [-9438, -9247, -9055, -8863, -8671, -8479, -8286, -8093, -7900, -7706, -7512, -7318, -7123, -6929, -6734, -6538],
   [-6343, -6147, -5951, -5755, -5558, -5362, -5165, -4968, -4771, -4573, -4375, -4178, -3980, -3782, -3584, -3385],
   [-3187, -2988, -2789, -2591, -2392, -2193, -1994, -1795, -1595, -1396, -1197, -997, -798, -598, -399, -199]]

/-- R72: the 64 rows of the listing. -/
def sineRows : List (List Int) :=
  sineRows0 ++ sineRows1 ++ sineRows2 ++ sineRows3 ++ sineRows4 ++ sineRows5 ++ sineRows6 ++ sineRows7

/-- The integer that word `i` holds (R70, R72). -/
def sineInt (i : Nat) : Int := (sineRows.getD (i / 16) []).getD (i % 16) 0

/-- `SINE[i]` (R51): an `s16`, indexed by the ten bits of a table index, so that no read can fail. -/
def sineRom (i : BitVec 10) : BitVec 16 := BitVec.ofInt 16 (sineInt i.toNat)

end Sys2Proof.Machine
end

