-- ==== Sys2Proof/Machine/Datapath.lean ====
section
/-! DEFINITION. The signal path of one sample: dither, dithered phase, router, table read, quantizer, bias
(42_sample_datapath.md). -/

namespace Sys2Proof.Machine

/-- R141: `lcg * LCG_C + 1`, modulo 2^64. The constant stands on the left so that Lean's unifier, which may compare the new
value with the old, does not count up to it. -/
def ditherNext (lcg : Word) : Word := Config.lcgC * lcg + Config.lcgInc

/-- R143: `pd = zext_64(r[63:48]) << 38`. -/
def phaseDither (r : Word) : Word := (r.extractLsb' 48 16).setWidth 64 <<< Config.pdShift

/-- R148: the amplitude dither of channel 0, `r[47:40]`. -/
def ampDither0 (r : Word) : Byte := r.extractLsb' 40 8

/-- R148: the amplitude dither of channel 1, `r[39:32]`. -/
def ampDither1 (r : Word) : Byte := r.extractLsb' 32 8

/-- R148: the amplitude dither of channel 2, `r[31:24]`. -/
def ampDither2 (r : Word) : Byte := r.extractLsb' 24 8

/-- R145, R146: the table index of a phase, its top ten bits. -/
def tableIndex (ph : Word) : BitVec 10 := ph.extractLsb' Config.tShift 10

/-- R149: `floor((v + d) / 256)`, rounding toward minus infinity. -/
def quantize (v : BitVec 16) (d : Byte) : Int := (v.toInt + (d.toNat : Int)) / Config.outStep

/-- R150: the output code, the quantized value plus the bias 128. -/
def outCode (v : BitVec 16) (d : Byte) : Byte := BitVec.ofInt 8 (quantize v d + (Config.mid.toNat : Int))

/-- R144 to R150: the code of one lane, from the dithered phase, the lane's shift and the lane's dither (R154). -/
def laneCode (ph shift : Word) (d : Byte) : Byte := outCode (sineRom (tableIndex (ph + shift))) d

/-- R140, R144: the beat of a sample while transmitting, from the new dither word `r`. Channel 0 has no shift (R145). -/
def signalBeat (r : Word) (s : State) : Beat where
  ch0 := laneCode (s.phase + phaseDither r) 0 (ampDither0 r)
  ch1 := laneCode (s.phase + phaseDither r) s.shift1 (ampDither1 r)
  ch2 := laneCode (s.phase + phaseDither r) s.shift2 (ampDither2 r)
  last := outLast s

/-- R152: the beat of an idle sample, the mid-scale code on every channel, undithered. -/
def idleBeat (s : State) : Beat where
  ch0 := Config.mid
  ch1 := Config.mid
  ch2 := Config.mid
  last := outLast s

end Sys2Proof.Machine
end

