-- ==== Sys2Proof/Machine/Scheduler.lean ====
section
/-! DEFINITION. The WSPR symbol scheduler (41_fill_scheduler.md): start condition, START, ADVANCE, END; and SAMPLE, which
joins it with the signal path (R140). -/

namespace Sys2Proof.Machine

/-- R122: idle, and `now mod 120 = 1`. -/
def startCondition (s : State) : Bool := !s.active && s.wallSec.toNat % Config.period == Config.phaseSec

/-- R123, R129: the word of a tone, `base_freq + symbol_step * symbol`, modulo 2^64. -/
def toneWord (base step : Word) (sym : Sym) : Word := base + step * sym.setWidth 64

/-- R123, R31: `(band_index + 1) mod freq_count`. A zero count cannot arise in READY (R123): a free value [9]. -/
def nextBand (s : State) : BitVec 32 :=
  if s.freqCount.toNat = 0 then Config.bandModZero s.bandIndex
  else BitVec.ofNat 32 ((s.bandIndex.toNat + 1) % s.freqCount.toNat)

/-- START (R123). `base_freq` is read with the old `band_index`; `freq` is computed from the new `base_freq`. -/
def startFrame (s : State) : State :=
  { s with
    symbolIndex := 0
    symbolPhase := 0
    phase := 0
    baseFreq := ftabRead s s.bandIndex.toNat
    bandIndex := nextBand s
    freq := toneWord (ftabRead s s.bandIndex.toNat) s.symbolStep (stabRead s 0)
    shift1 := if s.swapOnStart then s.shift2 else s.shift1
    shift2 := if s.swapOnStart then s.shift1 else s.shift2
    active := true }

/-- The scheduler evaluation of a FILL (R120, R122): START exactly when its condition holds. -/
def schedule (s : State) : State := if startCondition s then startFrame s else s

/-- END (R130): `active <- 0`, and nothing else. -/
def endFrame (s : State) : State := { s with active := false }

/-- R129: the tone update, with the `symbol_index` as it stands. -/
def toneUpdate (s : State) : State :=
  { s with freq := toneWord s.baseFreq s.symbolStep (stabRead s s.symbolIndex.toNat) }

/-- R128 to R130: what a wrap of `symbol_phase` does. -/
def symbolBoundary (s : State) : State :=
  let s1 := { s with symbolIndex := s.symbolIndex + 1 }
  if s1.symbolIndex.toNat < Config.nsym then toneUpdate s1 else endFrame s1

/-- R126, R127: the two accumulators. -/
def accumulate (s : State) : State :=
  { s with phase := s.phase + s.freq, symbolPhase := s.symbolPhase + s.symbolStep }

/-- R128: the symbol-phase addition wraps, the new value being less than the old. -/
def symbolWraps (s : State) : Bool := (s.symbolPhase + s.symbolStep).ult s.symbolPhase

/-- ADVANCE (R125). -/
def advance (s : State) : State :=
  if symbolWraps s then symbolBoundary (accumulate s) else accumulate s

/-- R140, R141: the dither generator's step, first in every sample, idle or not. -/
def ditherStep (s : State) : State := { s with lcg := ditherNext s.lcg }

/-- SAMPLE (R140): dither, then one beat from the state as it stands, then ADVANCE; `active` is tested once. -/
def sample (s : State) : State :=
  if s.active then advance (emit (signalBeat (ditherNext s.lcg) s) (ditherStep s))
  else emit (idleBeat s) (ditherStep s)

end Sys2Proof.Machine
end

