-- ==== Sys2Proof/Machine/Fill.lean ====
section
/-! DEFINITION. The FILL command (R120). -/

namespace Sys2Proof.Machine

/-- One turn of FILL's loop (R120): SAMPLE, then `fill_remaining <- fill_remaining - 1`. -/
def fillTurn (s : State) : State :=
  { sample s with fillRemaining := (sample s).fillRemaining - 1 }

/-- At most `n` turns, as long as the host takes the beats: a SAMPLE runs only when its beat can be taken (R44). -/
def fillTurns : Nat → State → State
  | 0, s => s
  | n + 1, s => if outReady s then fillTurns n (fillTurn s) else s

/-- The response of a FILL, after its last beat (R39); none while beats remain. -/
def fillRespond (s : State) : State := if s.fillRemaining = 0 then respond 0 s else s

/-- The loop of a FILL from where it stands, to its response or to the beat the host does not take (R120, R199). -/
def fillLoop (s : State) : State := fillRespond (fillTurns s.fillRemaining.toNat s)

/-- FILL's scheduler evaluation and its loop counter (R120). -/
def fillArm (count : BitVec 32) (s : State) : State := { schedule s with fillRemaining := count }

/-- FILL `count` (R120). -/
def execFill (count : BitVec 32) (s : State) : Host.Outcome State Fault Refusal :=
  if s.ready then .next (fillLoop (fillArm count s)) else .next (reject .notReady s)

end Sys2Proof.Machine
end

