-- ==== Sys2Proof/Machine/Dispatch.lean ====
section
/-! DEFINITION. One arm per command: its meaning. -/

namespace Sys2Proof.Machine

def exec (i : Instr) (s : State) : Host.Outcome State Fault Refusal :=
  match i with
  | .nop => Sys2Proof.Machine.execNop s
  | .wr reg data => Sys2Proof.Machine.execWr reg data s
  | .rd reg => Sys2Proof.Machine.execRd reg s
  | .pushf data => Sys2Proof.Machine.execPushf data s
  | .pushs data => Sys2Proof.Machine.execPushs data s
  | .init => Sys2Proof.Machine.execInit s
  | .fill count => Sys2Proof.Machine.execFill count s

end Sys2Proof.Machine
end

