-- ==== Sys2Proof/Machine/Step.lean ====
section
/-! DEFINITION. One step of the core, and where a command is placed for the next one. -/

namespace Sys2Proof.Machine

/-- One step: the host's reset edge, the rest of a stalled FILL, nothing when no command is presented, or one command run to
completion (R5, R60), a word that selects no row being rejected with ERR_ILLEGAL_CMD (R84 stage 1, R92). -/
def step (s : State) : Host.Outcome State Fault Refusal :=
  match nextWork s with
  | .resetEdge => .next (resetEdge s)
  | .resume => .next (fillLoop s)
  | .idle => .next s
  | .command t rest =>
    match decode t.word with
    | .ok i => exec i (accept t rest s)
    | .error _ => .next (reject .illegalCmd (accept t rest s))

/-- The state with an opcode-table word as the next transfer on the command port [12]. -/
def State.withFetchWord (s : State) (nbits w : Nat) : State := present (tableWord nbits w) s

end Sys2Proof.Machine
end

