-- ==== Sys2Proof/Machine/HostConv.lean ====
section
/-! DEFINITION. The host's conversions (R110 to R112), exact over the rationals. They are duties of the host; no step of the
core uses them. -/

namespace Sys2Proof.Machine

/-- `floor(hz * 2^64 / fs) mod 2^64` (R110), for the sample rates that have a meaning. -/
def freqWord (fs hz : ℚ) : Word := BitVec.ofInt 64 ⌊hz * 2 ^ 64 / fs⌋

/-- `hz_to_freq(fs, hz)` (R110): none for `fs <= 0`, which "has no meaning" [13]. -/
def hzToFreq (fs hz : ℚ) : Option Word := if fs ≤ 0 then none else some (freqWord fs hz)

/-- The WSPR symbol rate in Hz, exactly 12000/8192 (R17, R111). -/
def symbolRate : ℚ := 12000 / 8192

/-- `deg_to_shift(d) = floor(d * 2^63 / 180) mod 2^64` (R112). -/
def degToShift (d : ℚ) : Word := BitVec.ofInt 64 ⌊d * 2 ^ 63 / 180⌋

end Sys2Proof.Machine
end

