-- ==== Sys2Proof/Machine/Pseudo.lean ====
section
/-! DEFINITION. The pseudo-commands (R96) and the command sequence that stands for Initialize (R113). -/

namespace Sys2Proof.Machine

/-- The pseudo-commands of R96; rates, frequencies and angles are exact rationals. -/
inductive Pseudo where
  /-- `SETRATE fs` -/
  | setRate (fs : ℚ)
  /-- `PUSHHZ fs, hz` -/
  | pushHz (fs hz : ℚ)
  /-- `SETDEG SHIFT1, d` -/
  | setDeg1 (d : ℚ)
  /-- `SETDEG SHIFT2, d` -/
  | setDeg2 (d : ℚ)
  /-- `SETSWAP b` -/
  | setSwap (b : Bool)
  /-- `LOADSYMS "d0 d1 ... dn"`: the characters between the quotes -/
  | loadSyms (text : List Char)
  /-- `LOADPAT` -/
  | loadPat
  deriving DecidableEq, Repr

/-- R96: element `k` of the test pattern `3, 1, 0, 2, 3, 1, 0, 2, ...`. -/
def patternSym (k : Nat) : Word := [3, 1, 0, 2].getD (k % 4) 0

/-- The decimal digit a character stands for. -/
def decDigit (c : Char) : Option Nat := if '0' ≤ c ∧ c ≤ '9' then some (c.toNat - 48) else none

/-- LOADSYMS (R96): one PUSHS per digit, left to right, spaces ignored; any other character is refused [21]. -/
def loadSymsCommands : List Char → Option (List Instr)
  | [] => some []
  | c :: cs =>
    if c = ' ' then loadSymsCommands cs
    else match decDigit c, loadSymsCommands cs with
      | some d, some is => some (.pushs (BitVec.ofNat 64 d) :: is)
      | _, _ => none

/-- R96: the commands a pseudo-command expands to; none where a conversion has no meaning or a digit string is no such. -/
def expand : Pseudo → Option (List Instr)
  | .setRate fs => (hzToFreq fs symbolRate).map fun w => [.wr 0x10 w]
  | .pushHz fs hz => (hzToFreq fs hz).map fun w => [.pushf w]
  | .setDeg1 d => some [.wr 0x11 (degToShift d)]
  | .setDeg2 d => some [.wr 0x12 (degToShift d)]
  | .setSwap b => some [.wr 0x13 (if b then 1 else 0)]
  | .loadSyms text => loadSymsCommands text
  | .loadPat => some ((List.range 162).map fun k => .pushs (patternSym k))

/-- R113, the sequence in the core's own units: the scalars, the frequency words, the symbols, then INIT. -/
def configCommands (stepWord shiftWord1 shiftWord2 : Word) (swap : Bool) (freqs symbols : List Word) : List Instr :=
  [.wr 0x10 stepWord, .wr 0x11 shiftWord1, .wr 0x12 shiftWord2, .wr 0x13 (if swap then 1 else 0)]
    ++ freqs.map .pushf ++ symbols.map .pushs ++ [.init]

/-- R113: the commands that stand for `Initialize(sample_rate, center_frequencies, symbol_sequence, phase_shift_1,
phase_shift_2, swap_flag)`; none for a sample rate without a meaning [13]. -/
def initializeCommands (fs : ℚ) (hz : List ℚ) (symbols : List Word) (deg1 deg2 : ℚ) (swap : Bool) : Option (List Instr) :=
  if fs ≤ 0 then none
  else some (configCommands (freqWord fs symbolRate) (degToShift deg1) (degToShift deg2) swap (hz.map (freqWord fs)) symbols)

end Sys2Proof.Machine
end

