-- ==== Sys2Proof/Machine/Text.lean ====
section
/-! DEFINITION. The text form of a command (R95), read from the characters of one line. -/

namespace Sys2Proof.Machine

/-- What one line of text stands for: nothing, or a command and the wall-clock value written after `@`. -/
inductive TextLine where
  | blank
  | command (i : Instr) (now : Option Word)
  deriving DecidableEq, Repr

/-- The characters that separate words [19]. -/
def isBlank (c : Char) : Bool := c == ' ' || c == '\t'

/-- A text without the blanks at its two ends. -/
def trim (cs : List Char) : List Char := ((cs.dropWhile isBlank).reverse.dropWhile isBlank).reverse

/-- The hexadecimal digit a character stands for. DESIGN CHOICE: R95 names no case, and both `a` to `f` and `A` to `F` are read
[19]. Safe. -/
def hexDigit (c : Char) : Option Nat :=
  match decDigit c with
  | some d => some d
  | none =>
    if 'a' ≤ c ∧ c ≤ 'f' then some (c.toNat - 87)
    else if 'A' ≤ c ∧ c ≤ 'F' then some (c.toNat - 55)
    else none

/-- The number a text of digits stands for, after `acc`. R95 ignores underscores inside a number; DESIGN CHOICE: those before its
first digit and after its last are ignored too (`_5`, `5_`, `0x_5`) [19]. Safe. -/
def readDigits (base : Nat) (digit : Char → Option Nat) : List Char → Nat → Option Nat
  | [], acc => some acc
  | c :: cs, acc =>
    if c = '_' then readDigits base digit cs acc
    else match digit c with
      | some d => readDigits base digit cs (acc * base + d)
      | none => none

/-- A number (R95): decimal, or hexadecimal with the prefix `0x`; at least one digit [19]. -/
def readNumber (cs : List Char) : Option Nat :=
  match cs with
  | '0' :: 'x' :: ds => if ds.any (· ≠ '_') then readDigits 16 hexDigit ds 0 else none
  | ds => if ds.any (· ≠ '_') then readDigits 10 decDigit ds 0 else none

/-- A number that fits `n` bits, blanks around it ignored. -/
def readBits (n : Nat) (cs : List Char) : Option (BitVec n) :=
  match readNumber (trim cs) with
  | some v => if v < 2 ^ n then some (BitVec.ofNat n v) else none
  | none => none

/-- The register names of R95 that take no index. -/
def plainRegNames : List (List Char × RegName) :=
  [(['S', 'Y', 'M', 'B', 'O', 'L', '_', 'S', 'T', 'E', 'P'], .symbolStep),
   (['S', 'H', 'I', 'F', 'T', '1'], .shift1),
   (['S', 'H', 'I', 'F', 'T', '2'], .shift2),
   (['C', 'T', 'R', 'L'], .ctrl),
   (['S', 'T', 'A', 'T', 'U', 'S'], .status),
   (['P', 'H', 'A', 'S', 'E'], .phase),
   (['F', 'R', 'E', 'Q'], .freq),
   (['L', 'C', 'G'], .lcg),
   (['S', 'Y', 'M', 'B', 'O', 'L', '_', 'P', 'H', 'A', 'S', 'E'], .symbolPhase),
   (['S', 'Y', 'M', 'B', 'O', 'L', '_', 'I', 'N', 'D', 'E', 'X'], .symbolIndex),
   (['B', 'A', 'S', 'E', '_', 'F', 'R', 'E', 'Q'], .baseFreq),
   (['B', 'A', 'N', 'D', '_', 'I', 'N', 'D', 'E', 'X'], .bandIndex),
   (['F', 'R', 'E', 'Q', '_', 'C', 'O', 'U', 'N', 'T'], .freqCount),
   (['S', 'Y', 'M', '_', 'C', 'O', 'U', 'N', 'T'], .symCount)]

/-- The index written between the brackets of `FTAB[k]` or `STAB[k]`, if it is below the store's size. DESIGN CHOICE: it is
any number of R95, with no blanks around it [19]. Safe. -/
def readIndex (size : Nat) (cs : List Char) : Option (Fin size) :=
  match readNumber (cs.takeWhile (· ≠ ']')), cs.dropWhile (· ≠ ']') with
  | some k, [']'] => if h : k < size then some ⟨k, h⟩ else none
  | _, _ => none

/-- `<reg>` (R95): a name of R40, or a number 0 to 255. -/
def readRegAddr (text : List Char) : Option (BitVec 8) :=
  match trim text with
  | 'F' :: 'T' :: 'A' :: 'B' :: '[' :: cs => (readIndex 16 cs).map fun k => regAddr (.ftab k)
  | 'S' :: 'T' :: 'A' :: 'B' :: '[' :: cs => (readIndex 162 cs).map fun k => regAddr (.stab k)
  | cs =>
    match plainRegNames.find? (fun p => p.1 == cs) with
    | some p => some (regAddr p.2)
    | none => readBits 8 cs

/-- The operands of a FILL: the count, and after `@` the wall-clock value, which is no part of the command word (R95). -/
def readFill (ops : List Char) : Option TextLine :=
  match readBits 32 (ops.takeWhile (· ≠ '@')), ops.dropWhile (· ≠ '@') with
  | some count, [] => some (.command (.fill count) none)
  | some count, _ :: now => (readBits 64 now).map fun n => .command (.fill count) (some n)
  | none, _ => none

/-- The operands of a WR, separated by a comma. -/
def readWr (ops : List Char) : Option TextLine :=
  match readRegAddr (ops.takeWhile (· ≠ ',')), ops.dropWhile (· ≠ ',') with
  | some reg, ',' :: data => (readBits 64 data).map fun d => .command (.wr reg d) none
  | _, _ => none

/-- A mnemonic with its operands. -/
def readCommand (mnemonic ops : List Char) : Option TextLine :=
  if mnemonic = ['N', 'O', 'P'] then (if ops = [] then some (.command .nop none) else none)
  else if mnemonic = ['W', 'R'] then readWr ops
  else if mnemonic = ['R', 'D'] then (readRegAddr ops).map fun reg => .command (.rd reg) none
  else if mnemonic = ['P', 'U', 'S', 'H', 'F'] then (readBits 64 ops).map fun d => .command (.pushf d) none
  else if mnemonic = ['P', 'U', 'S', 'H', 'S'] then (readBits 64 ops).map fun d => .command (.pushs d) none
  else if mnemonic = ['I', 'N', 'I', 'T'] then (if ops = [] then some (.command .init none) else none)
  else if mnemonic = ['F', 'I', 'L', 'L'] then readFill ops
  else none

/-- One line (R95): a comment runs from `;` to its end; none if it is no command of the table. -/
def readLine (line : List Char) : Option TextLine :=
  match trim (line.takeWhile (· ≠ ';')) with
  | [] => some .blank
  | c :: cs => readCommand ((c :: cs).takeWhile (!isBlank ·)) (trim ((c :: cs).dropWhile (!isBlank ·)))

end Sys2Proof.Machine
end

