-- ==== Sys2Proof/Safety.lean ====
section
/-! DEFINITION. What the claims are stated in terms of: the invariants of R45 and R22, and what two states agree on when only
the unreadable store entries differ. -/

namespace Sys2Proof.Machine

/-- The invariants of the record: R45(h), with the range of `symbol_index` (R30), and that a transmission and a FILL in
progress are found only in READY (R34, R36). -/
structure Inv (s : State) : Prop where
  someFreq : s.ready = true → 1 ≤ s.freqCount.toNat
  freqFits : s.ready = true → s.freqCount.toNat ≤ 16
  symComplete : s.ready = true → s.symCount.toNat = 162
  bandInList : s.ready = true → s.bandIndex.toNat < s.freqCount.toNat
  indexBounded : s.symbolIndex.toNat ≤ 162
  activeIndex : s.active = true → s.symbolIndex.toNat ≤ 161
  activeReady : s.active = true → s.ready = true
  fillReady : s.fillRemaining ≠ 0 → s.ready = true

/-- R22, R129: while transmitting, `freq` is the tone word of the symbol being sent. -/
def ToneInv (s : State) : Prop :=
  s.active = true → s.symbolIndex.toNat ≤ 161 ∧
    s.freq = s.baseFreq + s.symbolStep * (stabRead s s.symbolIndex.toNat).setWidth 64

/-- Two states that differ at most in store entries no RD answers and no scheduler step reads: FTAB from `freq_count` on, STAB
from `sym_count` on (R40, R46: "unspecified, unreadable"). -/
structure AgreeOnWritten (s t : State) : Prop where
  freqs : ∀ k : Nat, k < 16 → k < s.freqCount.toNat → ftabRead s k = ftabRead t k
  syms : ∀ k : Nat, k < 162 → k < s.symCount.toNat → stabRead s k = stabRead t k
  rest : { s with ftab := t.ftab, stab := t.stab } = t

/-- The answer of a list of commands run one after another, stopping where one gives no next state. -/
def execAll : List Instr → State → Host.Outcome State Fault Refusal
  | [], s => .next s
  | i :: is, s =>
    match exec i s with
    | .next s' => execAll is s'
    | .fault f => .fault f
    | .refused r => .refused r

end Sys2Proof.Machine
end

