-- ==== Sys2Proof/Certificates/Slice0/Obligations.lean ====
section
/-! DEFINITION. The statements about the core. Each docstring names the rule of spec/ it states. -/

open Sys2Proof Sys2Proof.Machine

/-! ## Encoding -/

/-- R81 to R91: decoding an encoded command gives it back, every operand at every value; and each legal word is the encoding of
the one command it decodes to. -/
def Obligations.EncodeAndDecodeAreInverse : Prop :=
  (∀ i : Instr, decode (encode i) = .ok i) ∧ (∀ (w : Cmd) (i : Instr), decode w = .ok i → encode i = w)

/-- R83, row by row with the table's own masks and matches, and: a word that selects no row decodes to nothing. -/
def Obligations.WordSelectsRowByMaskAndMatch : Prop :=
  ∀ w : Cmd,
    (decode w = .ok .nop ↔ w &&& 0xFFFFFFFFFFFFFFFFFFFF#80 = 0x00000000000000000000#80) ∧
    ((∃ reg data, decode w = .ok (.wr reg data)) ↔ w &&& 0xFF000000000000000000#80 = 0x10000000000000000000#80) ∧
    ((∃ reg, decode w = .ok (.rd reg)) ↔ w &&& 0xFF00FFFFFFFFFFFFFFFF#80 = 0x20000000000000000000#80) ∧
    ((∃ data, decode w = .ok (.pushf data)) ↔ w &&& 0xFFFF0000000000000000#80 = 0x30000000000000000000#80) ∧
    ((∃ data, decode w = .ok (.pushs data)) ↔ w &&& 0xFFFF0000000000000000#80 = 0x40000000000000000000#80) ∧
    (decode w = .ok .init ↔ w &&& 0xFFFFFFFFFFFFFFFFFFFF#80 = 0x50000000000000000000#80) ∧
    ((∃ count, decode w = .ok (.fill count)) ↔ w &&& 0xFFFFFFFFFFFF00000000#80 = 0x60000000000000000000#80)

/-- R81: the fields of a command word and the formula that assembles it. -/
def Obligations.CommandWordFields : Prop :=
  (∀ w : Cmd,
    (fieldsOf w).op.toNat = w.toNat / 2 ^ 76 ∧ (fieldsOf w).rsv.toNat = w.toNat / 2 ^ 72 % 2 ^ 4 ∧
    (fieldsOf w).reg.toNat = w.toNat / 2 ^ 64 % 2 ^ 8 ∧ (fieldsOf w).data.toNat = w.toNat % 2 ^ 64) ∧
  (∀ f : Fields,
    (wordOf f).toNat = (f.op.toNat <<< 76) ||| (f.rsv.toNat <<< 72) ||| (f.reg.toNat <<< 64) ||| f.data.toNat)

/-- Worked encodings of 30_encoding.md section 6 decode to the commands they stand for, and four illegal words to none (R92). The
names of the four reasons are the model's own choice (log entry 20): the spec has one error code for all of them. -/
def Obligations.WorkedEncodingsDecode : Prop :=
  decode 0x00000000000000000000 = .ok .nop ∧
  decode 0x10100000003EEA209AAA = .ok (.wr 0x10 0x3EEA209AAA) ∧
  decode 0x10130000000000000001 = .ok (.wr 0x13 1) ∧
  decode 0x20E10000000000000000 = .ok (.rd 0xE1) ∧
  decode 0x30001205CCC89B0EE49F = .ok (.pushf 0x1205CCC89B0EE49F) ∧
  decode 0x40000000000000000003 = .ok (.pushs 3) ∧
  decode 0x50000000000000000000 = .ok .init ∧
  decode 0x600000000000FFFFFFFF = .ok (.fill 4294967295) ∧
  decode 0x70000000000000000000 = .error .reservedOpcode ∧
  decode 0x01000000000000000000 = .error .rsvNotZero ∧
  decode 0x60000000000100000000 = .error .countTooWide ∧
  decode 0x50000000000000000001 = .error .dataNotZero

/-- R56: a command word serialised least significant byte first is ten bytes, and reading them back is reading the word; a
string of another length is no command. -/
def Obligations.BytesLeastSignificantFirst : Prop :=
  (∀ w : Cmd, (bytesOf w).length = 10 ∧ decodeBytes (bytesOf w) = decode w ∧
    ∀ k : Nat, k < 10 → ((bytesOf w)[k]?).map BitVec.toNat = some (w.toNat / 2 ^ (8 * k) % 256)) ∧
  (∀ bs : List Byte, bs.length ≠ 10 → ∀ i : Instr, decodeBytes bs ≠ .ok i)

/-! ## The step -/

/-- A core out of reset with no command in execution runs the command its port presents, the word leaving the port and
`wall_sec` being what the host drives with it (R38, R43). -/
def Obligations.StepRunsTheDecodedCommand : Prop :=
  ∀ (s : State) (t : Transfer) (rest : List Transfer) (i : Instr),
    s.rst = false → s.fillRemaining = 0 → s.cmdPort = t :: rest → decode t.word = .ok i →
    step s = exec i { s with cmdPort := rest, wallSec := t.wallSec }

/-- R92: the words that are no command are exactly those of that rule's list, and each is rejected with ERR_ILLEGAL_CMD in both
lifecycle phases, setting one flag and nothing else of the core. That the transfer leaves `cmdPort` and that `wallSec` takes its
value is not of R92: the two fields are the host's lines as the model holds them (log entries 1, 18). -/
def Obligations.IllegalWordIsRejected : Prop :=
  (∀ w : Cmd, (∀ i : Instr, decode w ≠ .ok i) ↔
    (7 ≤ (fieldsOf w).op.toNat ∨ (fieldsOf w).rsv ≠ 0 ∨
      (((fieldsOf w).op = 0 ∨ (fieldsOf w).op = 5) ∧ ((fieldsOf w).reg ≠ 0 ∨ (fieldsOf w).data ≠ 0)) ∨
      ((fieldsOf w).op = 2 ∧ (fieldsOf w).data ≠ 0) ∨
      (((fieldsOf w).op = 3 ∨ (fieldsOf w).op = 4 ∨ (fieldsOf w).op = 6) ∧ (fieldsOf w).reg ≠ 0) ∨
      ((fieldsOf w).op = 6 ∧ 2 ^ 32 ≤ (fieldsOf w).data.toNat))) ∧
  (∀ (s : State) (t : Transfer) (rest : List Transfer),
    s.rst = false → s.fillRemaining = 0 → s.cmdPort = t :: rest → (∀ i : Instr, decode t.word ≠ .ok i) →
    step s = .next { s with
      cmdPort := rest
      wallSec := t.wallSec
      errflags := s.errflags ||| 0x01#8
      responses := s.responses ++ [⟨1, 0⟩] })

/-- R190: an edge with `rst = 1` sets every variable to 0 whatever was running, gives no response, emits no beat and leaves the
beats taken. What it leaves in the stores is unspecified, so nothing is said of it. That the host's lines are kept and the
edge uses up `rst` is the model's (log entries 4, 16), as is the count of edges (10) and the seed's place (7). -/
def Obligations.ResetEdgeClearsEveryVariable : Prop :=
  ∀ s : State, s.rst = true →
    ∃ (f : Vector Word 16) (st : Vector Sym 162), step s = .next {
      phase := 0, freq := 0, lcg := 0, symbolPhase := 0, symbolStep := 0, baseFreq := 0, shift1 := 0, shift2 := 0
      swapOnStart := false, active := false, symbolIndex := 0, bandIndex := 0, freqCount := 0, symCount := 0
      ready := false, errflags := 0, fillRemaining := 0, ftab := f, stab := st
      rst := false, cmdPort := s.cmdPort, wallSec := s.wallSec, hostTakes := s.hostTakes
      responses := s.responses, beats := s.beats, lcgSeed := s.lcgSeed, resets := s.resets + 1 }

/-- R46: the state after reset, every variable the table gives a value for; no response given, no beat out, ready for a
command. -/
def Obligations.ResetStateIsAllZero : Prop :=
  let s := State.reset
  s.ready = false ∧ s.errflags = 0 ∧ s.phase = 0 ∧ s.freq = 0 ∧ s.lcg = 0 ∧ s.symbolPhase = 0 ∧ s.symbolStep = 0 ∧
  s.baseFreq = 0 ∧ s.shift1 = 0 ∧ s.shift2 = 0 ∧ s.swapOnStart = false ∧ s.active = false ∧ s.symbolIndex = 0 ∧
  s.bandIndex = 0 ∧ s.freqCount = 0 ∧ s.symCount = 0 ∧ s.fillRemaining = 0 ∧ s.responses = [] ∧ s.beats = [] ∧
  cmdReady s = true

/-- R183, R44, R199: a core that receives no command "holds its state and does nothing"; and while the host takes no beat of a
FILL in progress, nothing changes and no command is accepted. -/
def Obligations.CoreWaitsForTheHost : Prop :=
  ∀ s : State, s.rst = false →
    (s.fillRemaining = 0 → s.cmdPort = [] → step s = .next s) ∧
    (s.fillRemaining ≠ 0 → s.hostTakes = some 0 → step s = .next s)

/-! ## The configuration commands -/

/-- R101: NOP responds OK(0) and leaves every variable as it was; a nonzero bit outside `op` makes its word illegal. -/
def Obligations.NopOnlyResponds : Prop :=
  (∀ s : State, exec .nop s = .next { s with responses := s.responses ++ [⟨0, 0⟩] }) ∧
  decode 0 = .ok .nop ∧
  (∀ w : Cmd, (fieldsOf w).op = 0 → w ≠ 0 → ∀ i : Instr, decode w ≠ .ok i)

/-- R102, whole: what WR does for every register address and every data word, in both lifecycle phases. -/
def Obligations.WrWritesOrIsRejected : Prop :=
  ∀ (s : State) (reg : BitVec 8) (data : Word),
    exec (.wr reg data) s = .next (
      if s.ready = true then { s with errflags := s.errflags ||| 0x02#8, responses := s.responses ++ [⟨2, 0⟩] }
      else if reg = 0x10 then { s with symbolStep := data, responses := s.responses ++ [⟨0, 0⟩] }
      else if reg = 0x11 then { s with shift1 := data, responses := s.responses ++ [⟨0, 0⟩] }
      else if reg = 0x12 then { s with shift2 := data, responses := s.responses ++ [⟨0, 0⟩] }
      else if reg = 0x13 then
        (if data.toNat < 2 then { s with swapOnStart := decide (data = 1), responses := s.responses ++ [⟨0, 0⟩] }
         else { s with errflags := s.errflags ||| 0x10#8, responses := s.responses ++ [⟨5, 0⟩] })
      else { s with errflags := s.errflags ||| 0x08#8, responses := s.responses ++ [⟨4, 0⟩] })

/-- R103 with the map of R40, whole: what RD answers for every register address, in both lifecycle phases. -/
def Obligations.RdAnswersTheRegisterMap : Prop :=
  ∀ (s : State) (reg : BitVec 8),
    exec (.rd reg) s = .next (
      (if reg.toNat < 16 then (if reg.toNat < s.freqCount.toNat then s.ftab[reg.toNat]? else none)
        else if reg.toNat = 0x10 then some s.symbolStep
        else if reg.toNat = 0x11 then some s.shift1
        else if reg.toNat = 0x12 then some s.shift2
        else if reg.toNat = 0x13 then some (if s.swapOnStart then 1 else 0)
        else if reg.toNat = 0x20 then some (statusWord s)
        else if reg.toNat = 0x21 then some s.phase
        else if reg.toNat = 0x22 then some s.freq
        else if reg.toNat = 0x23 then some s.lcg
        else if reg.toNat = 0x24 then some s.symbolPhase
        else if reg.toNat = 0x25 then some (s.symbolIndex.setWidth 64)
        else if reg.toNat = 0x26 then some s.baseFreq
        else if reg.toNat = 0x27 then some (s.bandIndex.setWidth 64)
        else if reg.toNat = 0x28 then some (s.freqCount.setWidth 64)
        else if reg.toNat = 0x29 then some (s.symCount.setWidth 64)
        else if 0x40 ≤ reg.toNat ∧ reg.toNat ≤ 0xE1 ∧ reg.toNat - 0x40 < s.symCount.toNat then
          (s.stab[reg.toNat - 0x40]?).map (BitVec.setWidth 64)
        else (none : Option Word)).elim
        { s with errflags := s.errflags ||| 0x08#8, responses := s.responses ++ [⟨4, 0⟩] }
        (fun v => { s with responses := s.responses ++ [⟨0, v⟩] }))

/-- R41: the layout of STATUS, bit by bit, and that it is read only: before INIT a WR to it is rejected with ERR_BAD_ADDR (in
READY every WR is rejected before, R175). -/
def Obligations.StatusBitLayout : Prop :=
  ∀ s : State,
    (∃ v : Word,
      exec (.rd 0x20) s = .next { s with responses := s.responses ++ [⟨0, v⟩] } ∧
      v.getLsbD 0 = s.ready ∧ v.getLsbD 1 = s.active ∧ v.getLsbD 2 = s.swapOnStart ∧
      (∀ k : Nat, 3 ≤ k → k ≤ 7 → v.getLsbD k = false) ∧
      (∀ e : ErrCode, v.getLsbD (7 + errNumber e) = errFlag s.errflags e) ∧
      (∀ k : Nat, 16 ≤ k → v.getLsbD k = false)) ∧
    (s.ready = false → ∀ data : Word, exec (.wr 0x20 data) s =
      .next { s with errflags := s.errflags ||| 0x08#8, responses := s.responses ++ [⟨4, 0⟩] })

/-- R42: CTRL reads `swap_on_start` at bit 0 and zeros above; a WR with any of bits 63:1 set is rejected with ERR_BAD_VALUE and
writes nothing (in UNCONFIGURED; in READY every WR is rejected before, R175); bit 0 is what a WR writes. -/
def Obligations.CtrlBitLayout : Prop :=
  ∀ s : State,
    (∃ v : Word, exec (.rd 0x13) s = .next { s with responses := s.responses ++ [⟨0, v⟩] } ∧
      v.getLsbD 0 = s.swapOnStart ∧ ∀ k : Nat, 1 ≤ k → v.getLsbD k = false) ∧
    (s.ready = false → ∀ data : Word, (∃ k : Nat, 1 ≤ k ∧ data.getLsbD k = true) →
      exec (.wr 0x13 data) s =
        .next { s with errflags := s.errflags ||| 0x10#8, responses := s.responses ++ [⟨5, 0⟩] }) ∧
    (s.ready = false → ∀ data : Word, (∀ k : Nat, 1 ≤ k → data.getLsbD k = false) →
      exec (.wr 0x13 data) s =
        .next { s with swapOnStart := data.getLsbD 0, responses := s.responses ++ [⟨0, 0⟩] })

/-- R104, whole: PUSHF in both lifecycle phases, with a full store, with a saturated count. -/
def Obligations.PushfAppendsAndCounts : Prop :=
  ∀ (s : State) (data : Word),
    exec (.pushf data) s = .next (
      if s.ready = true then { s with errflags := s.errflags ||| 0x02#8, responses := s.responses ++ [⟨2, 0⟩] }
      else { s with
        ftab := if h : s.freqCount.toNat < 16 then s.ftab.set s.freqCount.toNat data h else s.ftab
        freqCount := if s.freqCount = 31 then 31 else s.freqCount + 1
        responses := s.responses ++ [⟨0, 0⟩] })

/-- R105, whole: PUSHS in both lifecycle phases, for every data word, with a full store, with a saturated count. -/
def Obligations.PushsAppendsAndCounts : Prop :=
  ∀ (s : State) (data : Word),
    exec (.pushs data) s = .next (
      if s.ready = true then { s with errflags := s.errflags ||| 0x02#8, responses := s.responses ++ [⟨2, 0⟩] }
      else if 3 < data.toNat then { s with errflags := s.errflags ||| 0x10#8, responses := s.responses ++ [⟨5, 0⟩] }
      else { s with
        stab := if h : s.symCount.toNat < 162 then s.stab.set s.symCount.toNat (BitVec.ofNat 2 data.toNat) h else s.stab
        symCount := if s.symCount = 255 then 255 else s.symCount + 1
        responses := s.responses ++ [⟨0, 0⟩] })

/-- R106, whole: INIT's lifecycle check, its three configuration checks in their order, and the nine variables it writes. -/
def Obligations.InitChecksThenConstructs : Prop :=
  ∀ s : State,
    exec .init s = .next (
      if s.ready = true then { s with errflags := s.errflags ||| 0x02#8, responses := s.responses ++ [⟨2, 0⟩] }
      else if s.freqCount.toNat = 0 then
        { s with errflags := s.errflags ||| 0x20#8, responses := s.responses ++ [⟨6, 0⟩] }
      else if 16 < s.freqCount.toNat then
        { s with errflags := s.errflags ||| 0x40#8, responses := s.responses ++ [⟨7, 0⟩] }
      else if s.symCount.toNat ≠ 162 then
        { s with errflags := s.errflags ||| 0x80#8, responses := s.responses ++ [⟨8, 0⟩] }
      else { s with
        phase := 0, freq := 0, lcg := s.lcgSeed, symbolPhase := 0, symbolIndex := 0, baseFreq := 0, bandIndex := 0
        active := false, ready := true
        responses := s.responses ++ [⟨0, 0⟩] })

/-- R113: run from reset, the sequence that stands for Initialize, with symbols in range, succeeds exactly for 1 to 16
frequencies and 162 symbols; otherwise its INIT is rejected with the cause's code, and the core is not READY. The last
response is INIT's. -/
def Obligations.InitializeSequenceOutcome : Prop :=
  ∀ (stepWord shiftWord1 shiftWord2 : Word) (swap : Bool) (freqs symbols : List Word),
    (∀ v ∈ symbols, v.toNat ≤ 3) →
    ∃ t : State,
      execAll (configCommands stepWord shiftWord1 shiftWord2 swap freqs symbols) State.reset = .next t ∧
      t.responses.length = 5 + freqs.length + symbols.length ∧
      (∀ r ∈ t.responses.dropLast, r = ⟨0, 0⟩) ∧
      t.responses.getLast? = some ⟨
        (if freqs.length = 0 then 6 else if 16 < freqs.length then 7 else if symbols.length ≠ 162 then 8 else 0), 0⟩ ∧
      (t.ready = true ↔ 1 ≤ freqs.length ∧ freqs.length ≤ 16 ∧ symbols.length = 162)

/-- What a successful Initialize sequence leaves (R102, R104 to R106, R113): the words and symbols in list order, the
configured scalars, the scheduler idle at the first band. -/
def Obligations.InitializeSequenceLoads : Prop :=
  ∀ (stepWord shiftWord1 shiftWord2 : Word) (swap : Bool) (freqs symbols : List Word),
    (∀ v ∈ symbols, v.toNat ≤ 3) → 1 ≤ freqs.length → freqs.length ≤ 16 → symbols.length = 162 →
    ∃ t : State,
      execAll (configCommands stepWord shiftWord1 shiftWord2 swap freqs symbols) State.reset = .next t ∧
      t.symbolStep = stepWord ∧ t.shift1 = shiftWord1 ∧ t.shift2 = shiftWord2 ∧ t.swapOnStart = swap ∧
      t.freqCount.toNat = freqs.length ∧ t.symCount.toNat = 162 ∧ t.bandIndex = 0 ∧ t.active = false ∧ t.errflags = 0 ∧
      (∀ k : Nat, k < freqs.length → t.ftab[k]? = freqs[k]?) ∧
      (∀ k : Nat, k < 162 → (t.stab[k]?).map BitVec.toNat = (symbols[k]?).map BitVec.toNat)

/-! ## FILL and the scheduler -/

/-- R120, R173: before INIT a FILL is rejected with ERR_NOT_READY: no beat, no START, one flag. -/
def Obligations.FillBeforeInitIsRejected : Prop :=
  ∀ (s : State) (count : BitVec 32), s.ready = false →
    exec (.fill count) s =
      .next { s with errflags := s.errflags ||| 0x04#8, responses := s.responses ++ [⟨3, 0⟩] }

/-- R122, R123: START runs exactly when the core is idle and `now mod 120 = 1`, seen in a FILL of no sample: with START its
assignments, without it nothing but the response. -/
def Obligations.StartRunsExactlyOnItsCondition : Prop :=
  ∀ s : State, Inv s → s.ready = true → s.fillRemaining = 0 →
    exec (.fill 0) s = .next (
      if s.active = false ∧ s.wallSec.toNat % 120 = 1 then
        { s with
          symbolIndex := 0, symbolPhase := 0, phase := 0
          baseFreq := s.ftab.toList.getD s.bandIndex.toNat 0
          bandIndex := BitVec.ofNat 32 ((s.bandIndex.toNat + 1) % s.freqCount.toNat)
          freq := s.ftab.toList.getD s.bandIndex.toNat 0 + s.symbolStep * (s.stab[0]).setWidth 64
          shift1 := if s.swapOnStart then s.shift2 else s.shift1
          shift2 := if s.swapOnStart then s.shift1 else s.shift2
          active := true
          responses := s.responses ++ [⟨0, 0⟩] }
      else { s with responses := s.responses ++ [⟨0, 0⟩] })

/-- R120: a FILL whose beats are all taken answers the state after one scheduler evaluation and `count` turns of SAMPLE and
countdown, and its one response. -/
def Obligations.FillRunsCountSamples : Prop :=
  ∀ (s : State) (count : BitVec 32), s.ready = true → s.hostTakes = none →
    exec (.fill count) s = .next (respond 0 (fillTurn^[count.toNat] { schedule s with fillRemaining := count }))

/-- R131, R135, R152: a FILL that finds the core idle and starts nothing emits `count` beats (128, 128, 128), steps the dither
generator `count` times, and changes nothing else. -/
def Obligations.IdleFillEmitsMidScale : Prop :=
  ∀ (s : State) (count : BitVec 32), s.ready = true → s.hostTakes = none → s.active = false →
    s.wallSec.toNat % 120 ≠ 1 →
    exec (.fill count) s = .next { s with
      lcg := (fun x : Word => x * 6364136223846793005 + 1)^[count.toNat] s.lcg
      fillRemaining := 0
      beats := s.beats ++ (List.range count.toNat).map fun k => ⟨128, 128, 128, decide (k + 1 = count.toNat)⟩
      responses := s.responses ++ [⟨0, 0⟩] }

/-- R140 with R125 to R130, R141 to R150, in numbers: the whole next state of a FILL of one sample while transmitting. `r` is the
new dither word, `ph` the dithered phase; the codes are the floor of (table word + amplitude dither) / 256, plus 128. -/
def Obligations.TransmittingSampleIsTheRules : Prop :=
  ∀ s : State, s.ready = true → s.active = true → s.hostTakes = none →
    let r : Nat := (s.lcg.toNat * 6364136223846793005 + 1) % 2 ^ 64
    let ph : Nat := (s.phase.toNat + r / 2 ^ 48 * 2 ^ 38) % 2 ^ 64
    let i1 : Nat := (ph + s.shift1.toNat) % 2 ^ 64 / 2 ^ 54
    let i2 : Nat := (ph + s.shift2.toNat) % 2 ^ 64 / 2 ^ 54
    let wraps : Bool := decide ((s.symbolPhase.toNat + s.symbolStep.toNat) % 2 ^ 64 < s.symbolPhase.toNat)
    let nextIndex : BitVec 32 := if wraps then s.symbolIndex + 1 else s.symbolIndex
    ∃ b : Beat,
      (b.ch0.toNat : Int) = (sineInt (ph / 2 ^ 54) + ((r / 2 ^ 40 % 256 : Nat) : Int)) / 256 + 128 ∧
      (b.ch1.toNat : Int) = (sineInt i1 + ((r / 2 ^ 32 % 256 : Nat) : Int)) / 256 + 128 ∧
      (b.ch2.toNat : Int) = (sineInt i2 + ((r / 2 ^ 24 % 256 : Nat) : Int)) / 256 + 128 ∧
      b.last = true ∧
      exec (.fill 1) s = .next { s with
        lcg := BitVec.ofNat 64 r
        phase := s.phase + s.freq
        symbolPhase := s.symbolPhase + s.symbolStep
        symbolIndex := nextIndex
        freq := if wraps && decide (nextIndex.toNat < 162) then
            s.baseFreq + s.symbolStep * (stabRead s nextIndex.toNat).setWidth 64
          else s.freq
        active := !(wraps && !decide (nextIndex.toNat < 162))
        fillRemaining := 0
        beats := s.beats ++ [b]
        responses := s.responses ++ [⟨0, 0⟩] }

/-- R44, R55, R39: a FILL whose beats are all taken emits exactly `count` beats after those already out, `out_last` on the last
alone, then gives its one response. -/
def Obligations.FillEmitsExactlyCountBeats : Prop :=
  ∀ (s : State) (count : BitVec 32), s.ready = true → s.hostTakes = none →
    ∃ (t : State) (bs : List Beat),
      exec (.fill count) s = .next t ∧ t.beats = s.beats ++ bs ∧ bs.length = count.toNat ∧
      (∀ k : Nat, k < count.toNat → (bs[k]?).map Beat.last = some (decide (k + 1 = count.toNat))) ∧
      t.responses = s.responses ++ [⟨0, 0⟩] ∧ t.fillRemaining = 0

/-- R199: a host that stops taking beats after `k < count` of them leaves the core in the FILL, with `count - k` samples to
run and no response given. -/
def Obligations.StalledFillWaits : Prop :=
  ∀ (s : State) (count : BitVec 32) (k : Nat), s.ready = true → s.hostTakes = some k → k < count.toNat →
    ∃ (t : State) (bs : List Beat),
      exec (.fill count) s = .next t ∧ t.beats = s.beats ++ bs ∧ bs.length = k ∧
      t.fillRemaining.toNat = count.toNat - k ∧ t.responses = s.responses ∧ t.hostTakes = some 0

/-- R44: a stall "changes no value": a FILL held after `k` of its beats and then let go ends in the state the same FILL
reaches without the stall. -/
def Obligations.StallChangesNoValue : Prop :=
  ∀ (s : State) (count : BitVec 32) (k : Nat), s.ready = true → s.rst = false → k < count.toNat →
    ∃ t u : State,
      exec (.fill count) { s with hostTakes := some k } = .next t ∧
      step { t with hostTakes := none } = .next u ∧
      exec (.fill count) { s with hostTakes := none } = .next u

/-- FILL's frame (R120, R123, R140): whatever a FILL that is accepted does, it leaves the configuration, the stores, the flags
and the host's lines but its own alone; and if it starts no frame, also the base frequency, the band and the shifts. -/
def Obligations.FillFrame : Prop :=
  ∀ (s t : State) (count : BitVec 32), s.ready = true → exec (.fill count) s = .next t →
    t.symbolStep = s.symbolStep ∧ t.swapOnStart = s.swapOnStart ∧ t.freqCount = s.freqCount ∧ t.symCount = s.symCount ∧
    t.ready = true ∧ t.errflags = s.errflags ∧ t.ftab = s.ftab ∧ t.stab = s.stab ∧ t.rst = s.rst ∧ t.cmdPort = s.cmdPort ∧
    t.wallSec = s.wallSec ∧ t.lcgSeed = s.lcgSeed ∧ t.resets = s.resets ∧
    (s.active = true ∨ s.wallSec.toNat % 120 ≠ 1 →
      t.baseFreq = s.baseFreq ∧ t.bandIndex = s.bandIndex ∧ t.shift1 = s.shift1 ∧ t.shift2 = s.shift2)

/-- R131, R135: a FILL that finds the core idle and starts nothing changes no oscillator, scheduler or router variable, however
many of its beats the host takes, and every beat it emits is (128, 128, 128). -/
def Obligations.IdleFillMovesNoOscillator : Prop :=
  ∀ (s t : State) (count : BitVec 32), s.ready = true → s.active = false → s.wallSec.toNat % 120 ≠ 1 →
    exec (.fill count) s = .next t →
    t.phase = s.phase ∧ t.freq = s.freq ∧ t.symbolPhase = s.symbolPhase ∧ t.symbolIndex = s.symbolIndex ∧
    t.baseFreq = s.baseFreq ∧ t.bandIndex = s.bandIndex ∧ t.shift1 = s.shift1 ∧ t.shift2 = s.shift2 ∧ t.active = false ∧
    ∀ b ∈ t.beats.drop s.beats.length, b.ch0 = 128 ∧ b.ch1 = 128 ∧ b.ch2 = 128

/-- R132: the frame length. From the state START leaves, with a nonzero step, the transmission lasts exactly
`ceil(162 * 2^64 / symbol_step)` samples, and after `n` of them the symbol index is the number of wraps
`floor(n * symbol_step / 2^64)`. -/
def Obligations.FrameLastsExactlyItsLength : Prop :=
  ∀ s : State, s.active = true → s.symbolIndex = 0 → s.symbolPhase = 0 → s.symbolStep ≠ 0 →
    let frame := (162 * 2 ^ 64 + s.symbolStep.toNat - 1) / s.symbolStep.toNat
    (∀ n : Nat, n ≤ frame → (sample^[n] s).symbolIndex.toNat = n * s.symbolStep.toNat / 2 ^ 64) ∧
    (∀ n : Nat, n < frame → (sample^[n] s).active = true) ∧
    (∀ n : Nat, frame ≤ n → (sample^[n] s).active = false ∧ (sample^[n] s).symbolIndex = 162)

/-- R196: with `symbol_step = 0` a frame never ends, its tone never changes, and yet every FILL completes. -/
def Obligations.ZeroStepFrameNeverEnds : Prop :=
  ∀ (s : State) (count : BitVec 32), s.ready = true → s.active = true → s.symbolStep = 0 → s.hostTakes = none →
    ∃ t : State, exec (.fill count) s = .next t ∧ t.active = true ∧ t.symbolIndex = s.symbolIndex ∧ t.freq = s.freq ∧
      t.phase = s.phase + BitVec.ofNat 64 count.toNat * s.freq ∧ t.responses = s.responses ++ [⟨0, 0⟩]

/-- R133: the `j`-th START after INIT (`j` from 0) takes `FTAB[j mod freq_count]` and leaves the next band. -/
def Obligations.BandRotatesThroughTheList : Prop :=
  ∀ (s : State) (j : Nat), s.bandIndex = 0 → 1 ≤ s.freqCount.toNat → s.freqCount.toNat ≤ 16 →
    (startFrame^[j + 1] s).baseFreq = s.ftab.toList.getD (j % s.freqCount.toNat) 0 ∧
    (startFrame^[j + 1] s).bandIndex.toNat = (j + 1) % s.freqCount.toNat

/-- R134: with `swap_on_start` the `j`-th transmission (`j` from 0) runs with the configured shifts exchanged for even `j` and in
their order for odd `j`; without it both keep their values. -/
def Obligations.ShiftsAlternateBetweenFrames : Prop :=
  ∀ (s : State) (j : Nat),
    (s.swapOnStart = true → j % 2 = 0 →
      (startFrame^[j + 1] s).shift1 = s.shift2 ∧ (startFrame^[j + 1] s).shift2 = s.shift1) ∧
    (s.swapOnStart = true → j % 2 = 1 →
      (startFrame^[j + 1] s).shift1 = s.shift1 ∧ (startFrame^[j + 1] s).shift2 = s.shift2) ∧
    (s.swapOnStart = false → (startFrame^[j + 1] s).shift1 = s.shift1 ∧ (startFrame^[j + 1] s).shift2 = s.shift2)

/-! ## The signal path -/

/-- R141: the dither generator steps in every SAMPLE, idle or transmitting, by the recurrence, and its map is a bijection. -/
def Obligations.DitherStepsInEverySample : Prop :=
  (∀ s : State, (sample s).lcg.toNat = (s.lcg.toNat * 6364136223846793005 + 1) % 2 ^ 64) ∧ Function.Bijective ditherNext

/-- R143: the phase dither word is `r[63:48]` at bits 53 to 38, at most `2^54 - 2^38`, less than one table-resolution unit. -/
def Obligations.PhaseDitherStaysBelowOneStep : Prop :=
  ∀ r : Word, (phaseDither r).toNat = r.toNat / 2 ^ 48 * 2 ^ 38 ∧ (phaseDither r).toNat ≤ 2 ^ 54 - 2 ^ 38

/-- R149: the quantizer is the floor of the dithered sum over 256; over the table's range the sum fits `s16` and the result
lies in -127 to 127. -/
def Obligations.QuantizerIsTheFloor : Prop :=
  ∀ (v : BitVec 16) (d : Byte), -32512 ≤ v.toInt → v.toInt ≤ 32512 →
    -32512 ≤ v.toInt + d.toNat ∧ v.toInt + d.toNat ≤ 32767 ∧
    256 * quantize v d ≤ v.toInt + d.toNat ∧ v.toInt + d.toNat < 256 * (quantize v d + 1) ∧
    -127 ≤ quantize v d ∧ quantize v d ≤ 127

/-- R151: over the whole table and every dither value the code lies in 1 to 255, is 128 exactly when the dithered sum lies in 0
to 255, and is `128 + floor(v / 256)` or one more. -/
def Obligations.OutputCodesStayInRange : Prop :=
  ∀ (i : BitVec 10) (d : Byte),
    1 ≤ (outCode (sineRom i) d).toNat ∧
    ((outCode (sineRom i) d).toNat = 128 ↔ 0 ≤ (sineRom i).toInt + d.toNat ∧ (sineRom i).toInt + d.toNat ≤ 255) ∧
    (((outCode (sineRom i) d).toNat : Int) = 128 + (sineRom i).toInt / 256 ∨
      ((outCode (sineRom i) d).toNat : Int) = 128 + (sineRom i).toInt / 256 + 1)

/-- R153: writing `v = 256 q + t`, the quantizer gives `q + 1` for the dither values of at least `256 - t` and `q` for the
others; over a dither uniform on 0 to 255 its mean is exactly `v / 256`: the 256 results sum to `v`. -/
def Obligations.QuantizerIsUnbiased : Prop :=
  ∀ v : BitVec 16,
    (∀ d : Byte, quantize v d = v.toInt / 256 + (if 256 - v.toInt % 256 ≤ (d.toNat : Int) then 1 else 0)) ∧
    quantize v 0 = v.toInt / 256 ∧
    ∑ d ∈ Finset.range 256, quantize v (BitVec.ofNat 8 d) = v.toInt

/-- R142: `r[23:0]` is not used: two dither words that agree above it give the same beat. -/
def Obligations.LowDitherBitsHaveNoEffect : Prop :=
  ∀ (s : State) (r r' : Word), r.toNat / 2 ^ 24 = r'.toNat / 2 ^ 24 → signalBeat r s = signalBeat r' s

/-- R154, R146: the lanes differ only in shift and dither field; with `shift1 = 0` the index of channel 1 is that of channel 0,
and adding a whole number of table steps to a shift moves the index by that number around the circle. -/
def Obligations.ShiftMovesTheIndexAroundTheCircle : Prop :=
  ∀ (ph shift : Word) (k : Nat),
    tableIndex (ph + 0) = tableIndex ph ∧
    tableIndex (ph + (shift + BitVec.ofNat 64 k <<< 54)) = tableIndex (ph + shift) + BitVec.ofNat 10 k

/-- R70: each ROM word is the integer nearest to `32512 * sin(2 * pi * i / 1024)`. -/
def Obligations.SineRomIsTheNearestInteger : Prop :=
  ∀ i : Nat, i < 1024 → |((sineRom (BitVec.ofNat 10 i)).toInt : ℝ) - 32512 * Real.sin (2 * Real.pi * i / 1024)| < 1 / 2

/-- R71 (b) to (e): the quarter points, the two symmetries, the range, and that the words sum to 0. -/
def Obligations.SineRomSymmetries : Prop :=
  sineInt 0 = 0 ∧ sineInt 256 = 32512 ∧ sineInt 512 = 0 ∧ sineInt 768 = -32512 ∧
  (∀ i : Nat, i < 512 → sineInt (i + 512) = -sineInt i) ∧ (∀ i : Nat, i ≤ 512 → sineInt (512 - i) = sineInt i) ∧
  (∀ i : Nat, i < 1024 → -32512 ≤ sineInt i ∧ sineInt i ≤ 32512) ∧
  ∑ i ∈ Finset.range 1024, sineInt i = 0

/-! ## Rejections and the whole machine -/

/-- R39, R100, R170: an accepted command whose beats are all taken gives exactly one response, with a code 0 to 8, and leaves
no command in execution. -/
def Obligations.EveryCommandGivesOneResponse : Prop :=
  ∀ (s : State) (t : Transfer) (rest : List Transfer),
    s.rst = false → s.fillRemaining = 0 → s.cmdPort = t :: rest → s.hostTakes = none →
    ∃ (s' : State) (r : Response),
      step s = .next s' ∧ s'.responses = s.responses ++ [r] ∧ r.code.toNat ≤ 8 ∧ s'.cmdPort = rest ∧ s'.fillRemaining = 0

/-- R173: a rejection sets its flag, answers `(code, 0)`, and writes nothing else: no variable, no store entry, no beat. That the
transfer leaves `cmdPort` and that `wallSec` takes its value is not of R173, by which a rejection does not sample `wall_sec`: the
two fields are the host's lines as the model holds them (log entries 1, 18). -/
def Obligations.RejectionWritesOnlyItsFlag : Prop :=
  ∀ (s s' : State) (t : Transfer) (rest : List Transfer) (r : Response),
    s.rst = false → s.fillRemaining = 0 → s.cmdPort = t :: rest → step s = .next s' →
    s'.responses = s.responses ++ [r] → r.code ≠ 0 →
    r.data = 0 ∧ s' = { s with
      cmdPort := rest
      wallSec := t.wallSec
      errflags := s.errflags ||| BitVec.twoPow 8 (r.code.toNat - 1)
      responses := s.responses ++ [r] }

/-- R172: a flag once set stays set through every later step but a reset edge, and a step whose every response is OK changes
no flag. -/
def Obligations.FlagsAreSticky : Prop :=
  ∀ s s' : State, s.rst = false → step s = .next s' →
    (∀ e : ErrCode, errFlag s.errflags e = true → errFlag s'.errflags e = true) ∧
    ((∀ r ∈ s'.responses.drop s.responses.length, r.code = 0) → s'.errflags = s.errflags)

/-- R45(b), R34: while READY and but for a reset edge, the core stays READY and the configuration does not change. -/
def Obligations.ConfigurationFixedWhileReady : Prop :=
  ∀ s s' : State, s.rst = false → s.ready = true → step s = .next s' →
    s'.ready = true ∧ s'.symbolStep = s.symbolStep ∧ s'.swapOnStart = s.swapOnStart ∧ s'.freqCount = s.freqCount ∧
    s'.symCount = s.symCount ∧ s'.ftab = s.ftab ∧ s'.stab = s.stab

/-- R34, R191: READY is left only by a reset edge and entered only by a successful INIT, which the counts allow. -/
def Obligations.ReadyIsEnteredOnlyByInit : Prop :=
  ∀ s s' : State, step s = .next s' → s.ready = false → s'.ready = true →
    s.rst = false ∧ (∃ t rest, s.cmdPort = t :: rest ∧ decode t.word = .ok .init) ∧
    1 ≤ s.freqCount.toNat ∧ s.freqCount.toNat ≤ 16 ∧ s.symCount.toNat = 162

/-- R45(d): `active` goes 0 to 1 only in START, that is in a FILL accepted in READY with `now mod 120 = 1`. -/
def Obligations.ActiveRisesOnlyInStart : Prop :=
  ∀ s s' : State, step s = .next s' → s.active = false → s'.active = true →
    s.rst = false ∧ s.ready = true ∧
    ∃ (t : Transfer) (rest : List Transfer) (count : BitVec 32),
      s.cmdPort = t :: rest ∧ decode t.word = .ok (.fill count) ∧ t.wallSec.toNat % 120 = 1

/-- R45(e), R130: but for a reset edge, `active` goes 1 to 0 exactly when `symbol_index` becomes 162. -/
def Obligations.ActiveFallsExactlyAt162 : Prop :=
  ∀ s s' : State, Inv s → s.rst = false → s.active = true → step s = .next s' →
    (s'.active = false ↔ s'.symbolIndex.toNat = 162)

/-- R45(g), R45(c): after INIT and but for a reset edge, a step leaves the two shifts as they are or exchanges them once, and
that and a change of `symbol_index` from an idle core happen only in a FILL that starts a frame. -/
def Obligations.ShiftsAndIndexMoveOnlyInStart : Prop :=
  ∀ s s' : State, s.rst = false → s.ready = true → step s = .next s' →
    ((s'.shift1 = s.shift1 ∧ s'.shift2 = s.shift2) ∨
      (s'.shift1 = s.shift2 ∧ s'.shift2 = s.shift1 ∧ s.swapOnStart = true)) ∧
    (s'.shift1 ≠ s.shift1 ∨ s'.shift2 ≠ s.shift2 ∨ (s.active = false ∧ s'.symbolIndex ≠ s.symbolIndex) →
      s.active = false ∧ ∃ (t : Transfer) (rest : List Transfer) (count : BitVec 32),
        s.cmdPort = t :: rest ∧ decode t.word = .ok (.fill count) ∧ t.wallSec.toNat % 120 = 1)

/-- R40, R46, R53 ("unspecified, unreadable"): nothing the core ever answers, emits or stores in a readable place depends on a
store entry that was not pushed since reset. -/
def Obligations.UnwrittenEntriesAreUnobservable : Prop :=
  ∀ s t s' : State, Inv s → AgreeOnWritten s t → step s = .next s' →
    ∃ t' : State, step t = .next t' ∧ AgreeOnWritten s' t'

/-- R45(h): the record's invariant is kept by every step, from every state that has it. -/
def Obligations.EveryStepKeepsTheRecordInvariant : Prop :=
  ∀ s s' : State, Inv s → step s = .next s' → Inv s'

/-- The record's invariant holds after reset. -/
def Obligations.ResetHasTheRecordInvariant : Prop := Inv State.reset

/-- R22: that `freq` is the tone word of the symbol being sent, while transmitting, is kept by every step. -/
def Obligations.EveryStepKeepsTheToneInvariant : Prop :=
  ∀ s s' : State, Inv s → ToneInv s → step s = .next s' → ToneInv s'

/-- R170, R184: no step stops: from every state the core goes on to a next state. -/
def Obligations.EveryStepGoesOn : Prop :=
  ∀ s : State, ∃ s' : State, step s = .next s'

/-! ## The host's duties -/

/-- R114: for a positive integer rate, `fs * w` falls short of `hz * 2^64` by less than `fs`, modulo 2^64. -/
def Obligations.FrequencyWordAccuracy : Prop :=
  ∀ (fs : Nat) (hz : ℚ), 0 < fs →
    ∃ (w : Word) (e : ℚ) (k : ℤ),
      hzToFreq fs hz = some w ∧ 0 ≤ e ∧ e < fs ∧ (fs : ℚ) * w.toNat = hz * 2 ^ 64 - e + k * (fs * 2 ^ 64)

/-- R110: for a positive rate the word is `floor(hz * 2^64 / fs) mod 2^64`; 0 Hz and the rate itself give 0, half the rate
gives 2^63, a frequency above the rate aliases, and a negative one gives 2^64 minus the word of the positive, less 1 when the
quotient is no integer. -/
def Obligations.FrequencyWordOfARate : Prop :=
  ∀ fs hz : ℚ, 0 < fs →
    (∃ w : Word, hzToFreq fs hz = some w ∧ (w.toNat : ℤ) = ⌊hz * 2 ^ 64 / fs⌋ % 2 ^ 64 ∧
      hzToFreq fs (-hz) = some (if (⌊hz * 2 ^ 64 / fs⌋ : ℚ) = hz * 2 ^ 64 / fs then -w else -w - 1)) ∧
    hzToFreq fs 0 = some 0 ∧ hzToFreq fs fs = some 0 ∧ hzToFreq fs (fs / 2) = some (BitVec.ofNat 64 (2 ^ 63)) ∧
    hzToFreq fs (hz + fs) = hzToFreq fs hz

/-- R112: the angle conversion is `floor(d * 2^63 / 180) mod 2^64`, and an angle equals the same angle plus 360. -/
def Obligations.AngleWordIsModuloOneTurn : Prop :=
  ∀ d : ℚ, ((degToShift d).toNat : ℤ) = ⌊d * 2 ^ 63 / 180⌋ % 2 ^ 64 ∧ degToShift (d + 360) = degToShift d

/-- R96, R113: the Initialize sequence is what the pseudo-commands SETRATE, SETDEG, SETDEG, SETSWAP, one PUSHHZ per frequency
and one LOADSYMS expand to, closed by INIT; and LOADPAT is the LOADSYMS of the pattern 3, 1, 0, 2 repeated to 162 digits. -/
def Obligations.InitializeIsThePseudoCommands : Prop :=
  (∀ (fs deg1 deg2 : ℚ) (swap : Bool) (hz : List ℚ) (digits : List Nat), (∀ d ∈ digits, d < 10) →
    initializeCommands fs hz (digits.map (BitVec.ofNat 64)) deg1 deg2 swap =
      (([Pseudo.setRate fs, Pseudo.setDeg1 deg1, Pseudo.setDeg2 deg2, Pseudo.setSwap swap] ++ hz.map (Pseudo.pushHz fs) ++
          [Pseudo.loadSyms (digits.map Nat.digitChar)]).mapM expand).map fun l => l.flatten ++ [Instr.init]) ∧
  expand .loadPat =
    expand (.loadSyms ((List.range 162).map fun k => Nat.digitChar ([3, 1, 0, 2].getD (k % 4) 0)))
end

