-- ==== Sys2Proof/Laws/Encoding.lean ====
section
/-! SUPPORT. Words and fields: assembling and taking apart a command word are inverse to each other. -/

namespace Sys2Proof

theorem append_toNat_add {n m : Nat} (x : BitVec n) (y : BitVec m) :
    (x ++ y).toNat = x.toNat * 2 ^ m + y.toNat := by
  rw [BitVec.toNat_append, Nat.shiftLeft_eq, mul_comm, Nat.two_pow_add_eq_or_of_lt y.isLt]

/-- A command word as a number: the four fields at their places (R81). -/
theorem wordOf_toNat (f : Fields) :
    (wordOf f).toNat =
      f.op.toNat * 2 ^ 76 + f.rsv.toNat * 2 ^ 72 + f.reg.toNat * 2 ^ 64 + f.data.toNat := by
  simp only [wordOf, BitVec.toNat_cast, append_toNat_add]
  ring

theorem fieldsOf_op (w : Cmd) : (fieldsOf w).op.toNat = w.toNat / 2 ^ 76 := by
  have := w.isLt
  simp only [fieldsOf, BitVec.extractLsb'_toNat, Nat.shiftRight_eq_div_pow]
  omega

theorem fieldsOf_rsv (w : Cmd) : (fieldsOf w).rsv.toNat = w.toNat / 2 ^ 72 % 2 ^ 4 := by
  simp only [fieldsOf, BitVec.extractLsb'_toNat, Nat.shiftRight_eq_div_pow]

theorem fieldsOf_reg (w : Cmd) : (fieldsOf w).reg.toNat = w.toNat / 2 ^ 64 % 2 ^ 8 := by
  simp only [fieldsOf, BitVec.extractLsb'_toNat, Nat.shiftRight_eq_div_pow]

theorem fieldsOf_data (w : Cmd) : (fieldsOf w).data.toNat = w.toNat % 2 ^ 64 := by
  simp [fieldsOf, BitVec.extractLsb'_toNat]

theorem Fields.eq_of_toNat {f g : Fields} (h1 : f.op.toNat = g.op.toNat) (h2 : f.rsv.toNat = g.rsv.toNat)
    (h3 : f.reg.toNat = g.reg.toNat) (h4 : f.data.toNat = g.data.toNat) : f = g := by
  obtain ⟨_, _, _, _⟩ := f
  obtain ⟨_, _, _, _⟩ := g
  simp only [Fields.mk.injEq]
  exact ⟨BitVec.eq_of_toNat_eq h1, BitVec.eq_of_toNat_eq h2, BitVec.eq_of_toNat_eq h3, BitVec.eq_of_toNat_eq h4⟩

theorem fieldsOf_wordOf (f : Fields) : fieldsOf (wordOf f) = f := by
  have h := wordOf_toNat f
  have h1 := f.op.isLt
  have h2 := f.rsv.isLt
  have h3 := f.reg.isLt
  have h4 := f.data.isLt
  apply Fields.eq_of_toNat
  · rw [fieldsOf_op]; omega
  · rw [fieldsOf_rsv]; omega
  · rw [fieldsOf_reg]; omega
  · rw [fieldsOf_data]; omega

theorem wordOf_fieldsOf (w : Cmd) : wordOf (fieldsOf w) = w := by
  apply BitVec.eq_of_toNat_eq
  rw [wordOf_toNat, fieldsOf_op, fieldsOf_rsv, fieldsOf_reg, fieldsOf_data]
  have := w.isLt
  omega

theorem numberOfBytes_append_one (bs : List Byte) (b : Byte) :
    numberOfBytes (bs ++ [b]) = numberOfBytes bs + 2 ^ (8 * bs.length) * b.toNat := by
  induction bs with
  | nil => simp [numberOfBytes]
  | cons c cs ih =>
    simp only [List.cons_append, numberOfBytes, ih, List.length_cons, Nat.mul_add, pow_add]
    ring

theorem numberOfBytes_low (w : Cmd) (n : Nat) :
    numberOfBytes ((List.range n).map fun k => w.extractLsb' (8 * k) 8) = w.toNat % 2 ^ (8 * n) := by
  induction n with
  | zero => simp [numberOfBytes, Nat.mod_one]
  | succ n ih =>
    rw [List.range_succ, List.map_append, List.map_singleton, numberOfBytes_append_one, ih]
    simp only [List.length_map, List.length_range, BitVec.extractLsb'_toNat, Nat.shiftRight_eq_div_pow]
    rw [show 8 * (n + 1) = 8 * n + 8 by ring, pow_add, Nat.mod_mul]

/-- The bytes of a word read back as the word (R56). -/
theorem numberOfBytes_bytesOf (w : Cmd) : numberOfBytes (bytesOf w) = w.toNat := by
  rw [bytesOf, numberOfBytes_low]
  exact Nat.mod_eq_of_lt w.isLt

end Sys2Proof
end

