-- ==== Sys2Proof/Laws/State.lean ====
section
/-! SUPPORT. What each update of the state does to each field, one lemma per field per update, so that no later proof unfolds a
record update. -/

namespace Sys2Proof.Machine

variable (s : State)

/-! ### respond -/

@[simp] theorem respond_phase (data : Word) : (respond data s).phase = s.phase := rfl
@[simp] theorem respond_freq (data : Word) : (respond data s).freq = s.freq := rfl
@[simp] theorem respond_lcg (data : Word) : (respond data s).lcg = s.lcg := rfl
@[simp] theorem respond_symbolPhase (data : Word) : (respond data s).symbolPhase = s.symbolPhase := rfl
@[simp] theorem respond_symbolStep (data : Word) : (respond data s).symbolStep = s.symbolStep := rfl
@[simp] theorem respond_baseFreq (data : Word) : (respond data s).baseFreq = s.baseFreq := rfl
@[simp] theorem respond_shift1 (data : Word) : (respond data s).shift1 = s.shift1 := rfl
@[simp] theorem respond_shift2 (data : Word) : (respond data s).shift2 = s.shift2 := rfl
@[simp] theorem respond_swapOnStart (data : Word) : (respond data s).swapOnStart = s.swapOnStart := rfl
@[simp] theorem respond_active (data : Word) : (respond data s).active = s.active := rfl
@[simp] theorem respond_symbolIndex (data : Word) : (respond data s).symbolIndex = s.symbolIndex := rfl
@[simp] theorem respond_bandIndex (data : Word) : (respond data s).bandIndex = s.bandIndex := rfl
@[simp] theorem respond_freqCount (data : Word) : (respond data s).freqCount = s.freqCount := rfl
@[simp] theorem respond_symCount (data : Word) : (respond data s).symCount = s.symCount := rfl
@[simp] theorem respond_ready (data : Word) : (respond data s).ready = s.ready := rfl
@[simp] theorem respond_errflags (data : Word) : (respond data s).errflags = s.errflags := rfl
@[simp] theorem respond_fillRemaining (data : Word) : (respond data s).fillRemaining = s.fillRemaining := rfl
@[simp] theorem respond_ftab (data : Word) : (respond data s).ftab = s.ftab := rfl
@[simp] theorem respond_stab (data : Word) : (respond data s).stab = s.stab := rfl
@[simp] theorem respond_rst (data : Word) : (respond data s).rst = s.rst := rfl
@[simp] theorem respond_cmdPort (data : Word) : (respond data s).cmdPort = s.cmdPort := rfl
@[simp] theorem respond_wallSec (data : Word) : (respond data s).wallSec = s.wallSec := rfl
@[simp] theorem respond_hostTakes (data : Word) : (respond data s).hostTakes = s.hostTakes := rfl
@[simp] theorem respond_responses (data : Word) : (respond data s).responses = s.responses ++ [{ code := 0, data := data }] := rfl
@[simp] theorem respond_beats (data : Word) : (respond data s).beats = s.beats := rfl
@[simp] theorem respond_lcgSeed (data : Word) : (respond data s).lcgSeed = s.lcgSeed := rfl
@[simp] theorem respond_resets (data : Word) : (respond data s).resets = s.resets := rfl

/-! ### reject -/

@[simp] theorem reject_phase (e : ErrCode) : (reject e s).phase = s.phase := rfl
@[simp] theorem reject_freq (e : ErrCode) : (reject e s).freq = s.freq := rfl
@[simp] theorem reject_lcg (e : ErrCode) : (reject e s).lcg = s.lcg := rfl
@[simp] theorem reject_symbolPhase (e : ErrCode) : (reject e s).symbolPhase = s.symbolPhase := rfl
@[simp] theorem reject_symbolStep (e : ErrCode) : (reject e s).symbolStep = s.symbolStep := rfl
@[simp] theorem reject_baseFreq (e : ErrCode) : (reject e s).baseFreq = s.baseFreq := rfl
@[simp] theorem reject_shift1 (e : ErrCode) : (reject e s).shift1 = s.shift1 := rfl
@[simp] theorem reject_shift2 (e : ErrCode) : (reject e s).shift2 = s.shift2 := rfl
@[simp] theorem reject_swapOnStart (e : ErrCode) : (reject e s).swapOnStart = s.swapOnStart := rfl
@[simp] theorem reject_active (e : ErrCode) : (reject e s).active = s.active := rfl
@[simp] theorem reject_symbolIndex (e : ErrCode) : (reject e s).symbolIndex = s.symbolIndex := rfl
@[simp] theorem reject_bandIndex (e : ErrCode) : (reject e s).bandIndex = s.bandIndex := rfl
@[simp] theorem reject_freqCount (e : ErrCode) : (reject e s).freqCount = s.freqCount := rfl
@[simp] theorem reject_symCount (e : ErrCode) : (reject e s).symCount = s.symCount := rfl
@[simp] theorem reject_ready (e : ErrCode) : (reject e s).ready = s.ready := rfl
@[simp] theorem reject_errflags (e : ErrCode) : (reject e s).errflags = setErrFlag s.errflags e := rfl
@[simp] theorem reject_fillRemaining (e : ErrCode) : (reject e s).fillRemaining = s.fillRemaining := rfl
@[simp] theorem reject_ftab (e : ErrCode) : (reject e s).ftab = s.ftab := rfl
@[simp] theorem reject_stab (e : ErrCode) : (reject e s).stab = s.stab := rfl
@[simp] theorem reject_rst (e : ErrCode) : (reject e s).rst = s.rst := rfl
@[simp] theorem reject_cmdPort (e : ErrCode) : (reject e s).cmdPort = s.cmdPort := rfl
@[simp] theorem reject_wallSec (e : ErrCode) : (reject e s).wallSec = s.wallSec := rfl
@[simp] theorem reject_hostTakes (e : ErrCode) : (reject e s).hostTakes = s.hostTakes := rfl
@[simp] theorem reject_responses (e : ErrCode) : (reject e s).responses = s.responses ++ [{ code := rspCode e, data := 0 }] := rfl
@[simp] theorem reject_beats (e : ErrCode) : (reject e s).beats = s.beats := rfl
@[simp] theorem reject_lcgSeed (e : ErrCode) : (reject e s).lcgSeed = s.lcgSeed := rfl
@[simp] theorem reject_resets (e : ErrCode) : (reject e s).resets = s.resets := rfl

/-! ### ftabWrite -/

@[simp] theorem ftabWrite_phase (k : Nat) (v : Word) : (ftabWrite k v s).phase = s.phase := rfl
@[simp] theorem ftabWrite_freq (k : Nat) (v : Word) : (ftabWrite k v s).freq = s.freq := rfl
@[simp] theorem ftabWrite_lcg (k : Nat) (v : Word) : (ftabWrite k v s).lcg = s.lcg := rfl
@[simp] theorem ftabWrite_symbolPhase (k : Nat) (v : Word) : (ftabWrite k v s).symbolPhase = s.symbolPhase := rfl
@[simp] theorem ftabWrite_symbolStep (k : Nat) (v : Word) : (ftabWrite k v s).symbolStep = s.symbolStep := rfl
@[simp] theorem ftabWrite_baseFreq (k : Nat) (v : Word) : (ftabWrite k v s).baseFreq = s.baseFreq := rfl
@[simp] theorem ftabWrite_shift1 (k : Nat) (v : Word) : (ftabWrite k v s).shift1 = s.shift1 := rfl
@[simp] theorem ftabWrite_shift2 (k : Nat) (v : Word) : (ftabWrite k v s).shift2 = s.shift2 := rfl
@[simp] theorem ftabWrite_swapOnStart (k : Nat) (v : Word) : (ftabWrite k v s).swapOnStart = s.swapOnStart := rfl
@[simp] theorem ftabWrite_active (k : Nat) (v : Word) : (ftabWrite k v s).active = s.active := rfl
@[simp] theorem ftabWrite_symbolIndex (k : Nat) (v : Word) : (ftabWrite k v s).symbolIndex = s.symbolIndex := rfl
@[simp] theorem ftabWrite_bandIndex (k : Nat) (v : Word) : (ftabWrite k v s).bandIndex = s.bandIndex := rfl
@[simp] theorem ftabWrite_freqCount (k : Nat) (v : Word) : (ftabWrite k v s).freqCount = s.freqCount := rfl
@[simp] theorem ftabWrite_symCount (k : Nat) (v : Word) : (ftabWrite k v s).symCount = s.symCount := rfl
@[simp] theorem ftabWrite_ready (k : Nat) (v : Word) : (ftabWrite k v s).ready = s.ready := rfl
@[simp] theorem ftabWrite_errflags (k : Nat) (v : Word) : (ftabWrite k v s).errflags = s.errflags := rfl
@[simp] theorem ftabWrite_fillRemaining (k : Nat) (v : Word) : (ftabWrite k v s).fillRemaining = s.fillRemaining := rfl
@[simp] theorem ftabWrite_ftab (k : Nat) (v : Word) : (ftabWrite k v s).ftab = s.ftab.setIfInBounds k v := rfl
@[simp] theorem ftabWrite_stab (k : Nat) (v : Word) : (ftabWrite k v s).stab = s.stab := rfl
@[simp] theorem ftabWrite_rst (k : Nat) (v : Word) : (ftabWrite k v s).rst = s.rst := rfl
@[simp] theorem ftabWrite_cmdPort (k : Nat) (v : Word) : (ftabWrite k v s).cmdPort = s.cmdPort := rfl
@[simp] theorem ftabWrite_wallSec (k : Nat) (v : Word) : (ftabWrite k v s).wallSec = s.wallSec := rfl
@[simp] theorem ftabWrite_hostTakes (k : Nat) (v : Word) : (ftabWrite k v s).hostTakes = s.hostTakes := rfl
@[simp] theorem ftabWrite_responses (k : Nat) (v : Word) : (ftabWrite k v s).responses = s.responses := rfl
@[simp] theorem ftabWrite_beats (k : Nat) (v : Word) : (ftabWrite k v s).beats = s.beats := rfl
@[simp] theorem ftabWrite_lcgSeed (k : Nat) (v : Word) : (ftabWrite k v s).lcgSeed = s.lcgSeed := rfl
@[simp] theorem ftabWrite_resets (k : Nat) (v : Word) : (ftabWrite k v s).resets = s.resets := rfl

/-! ### stabWrite -/

@[simp] theorem stabWrite_phase (k : Nat) (v : Sym) : (stabWrite k v s).phase = s.phase := rfl
@[simp] theorem stabWrite_freq (k : Nat) (v : Sym) : (stabWrite k v s).freq = s.freq := rfl
@[simp] theorem stabWrite_lcg (k : Nat) (v : Sym) : (stabWrite k v s).lcg = s.lcg := rfl
@[simp] theorem stabWrite_symbolPhase (k : Nat) (v : Sym) : (stabWrite k v s).symbolPhase = s.symbolPhase := rfl
@[simp] theorem stabWrite_symbolStep (k : Nat) (v : Sym) : (stabWrite k v s).symbolStep = s.symbolStep := rfl
@[simp] theorem stabWrite_baseFreq (k : Nat) (v : Sym) : (stabWrite k v s).baseFreq = s.baseFreq := rfl
@[simp] theorem stabWrite_shift1 (k : Nat) (v : Sym) : (stabWrite k v s).shift1 = s.shift1 := rfl
@[simp] theorem stabWrite_shift2 (k : Nat) (v : Sym) : (stabWrite k v s).shift2 = s.shift2 := rfl
@[simp] theorem stabWrite_swapOnStart (k : Nat) (v : Sym) : (stabWrite k v s).swapOnStart = s.swapOnStart := rfl
@[simp] theorem stabWrite_active (k : Nat) (v : Sym) : (stabWrite k v s).active = s.active := rfl
@[simp] theorem stabWrite_symbolIndex (k : Nat) (v : Sym) : (stabWrite k v s).symbolIndex = s.symbolIndex := rfl
@[simp] theorem stabWrite_bandIndex (k : Nat) (v : Sym) : (stabWrite k v s).bandIndex = s.bandIndex := rfl
@[simp] theorem stabWrite_freqCount (k : Nat) (v : Sym) : (stabWrite k v s).freqCount = s.freqCount := rfl
@[simp] theorem stabWrite_symCount (k : Nat) (v : Sym) : (stabWrite k v s).symCount = s.symCount := rfl
@[simp] theorem stabWrite_ready (k : Nat) (v : Sym) : (stabWrite k v s).ready = s.ready := rfl
@[simp] theorem stabWrite_errflags (k : Nat) (v : Sym) : (stabWrite k v s).errflags = s.errflags := rfl
@[simp] theorem stabWrite_fillRemaining (k : Nat) (v : Sym) : (stabWrite k v s).fillRemaining = s.fillRemaining := rfl
@[simp] theorem stabWrite_ftab (k : Nat) (v : Sym) : (stabWrite k v s).ftab = s.ftab := rfl
@[simp] theorem stabWrite_stab (k : Nat) (v : Sym) : (stabWrite k v s).stab = s.stab.setIfInBounds k v := rfl
@[simp] theorem stabWrite_rst (k : Nat) (v : Sym) : (stabWrite k v s).rst = s.rst := rfl
@[simp] theorem stabWrite_cmdPort (k : Nat) (v : Sym) : (stabWrite k v s).cmdPort = s.cmdPort := rfl
@[simp] theorem stabWrite_wallSec (k : Nat) (v : Sym) : (stabWrite k v s).wallSec = s.wallSec := rfl
@[simp] theorem stabWrite_hostTakes (k : Nat) (v : Sym) : (stabWrite k v s).hostTakes = s.hostTakes := rfl
@[simp] theorem stabWrite_responses (k : Nat) (v : Sym) : (stabWrite k v s).responses = s.responses := rfl
@[simp] theorem stabWrite_beats (k : Nat) (v : Sym) : (stabWrite k v s).beats = s.beats := rfl
@[simp] theorem stabWrite_lcgSeed (k : Nat) (v : Sym) : (stabWrite k v s).lcgSeed = s.lcgSeed := rfl
@[simp] theorem stabWrite_resets (k : Nat) (v : Sym) : (stabWrite k v s).resets = s.resets := rfl

/-! ### emit -/

@[simp] theorem emit_phase (b : Beat) : (emit b s).phase = s.phase := rfl
@[simp] theorem emit_freq (b : Beat) : (emit b s).freq = s.freq := rfl
@[simp] theorem emit_lcg (b : Beat) : (emit b s).lcg = s.lcg := rfl
@[simp] theorem emit_symbolPhase (b : Beat) : (emit b s).symbolPhase = s.symbolPhase := rfl
@[simp] theorem emit_symbolStep (b : Beat) : (emit b s).symbolStep = s.symbolStep := rfl
@[simp] theorem emit_baseFreq (b : Beat) : (emit b s).baseFreq = s.baseFreq := rfl
@[simp] theorem emit_shift1 (b : Beat) : (emit b s).shift1 = s.shift1 := rfl
@[simp] theorem emit_shift2 (b : Beat) : (emit b s).shift2 = s.shift2 := rfl
@[simp] theorem emit_swapOnStart (b : Beat) : (emit b s).swapOnStart = s.swapOnStart := rfl
@[simp] theorem emit_active (b : Beat) : (emit b s).active = s.active := rfl
@[simp] theorem emit_symbolIndex (b : Beat) : (emit b s).symbolIndex = s.symbolIndex := rfl
@[simp] theorem emit_bandIndex (b : Beat) : (emit b s).bandIndex = s.bandIndex := rfl
@[simp] theorem emit_freqCount (b : Beat) : (emit b s).freqCount = s.freqCount := rfl
@[simp] theorem emit_symCount (b : Beat) : (emit b s).symCount = s.symCount := rfl
@[simp] theorem emit_ready (b : Beat) : (emit b s).ready = s.ready := rfl
@[simp] theorem emit_errflags (b : Beat) : (emit b s).errflags = s.errflags := rfl
@[simp] theorem emit_fillRemaining (b : Beat) : (emit b s).fillRemaining = s.fillRemaining := rfl
@[simp] theorem emit_ftab (b : Beat) : (emit b s).ftab = s.ftab := rfl
@[simp] theorem emit_stab (b : Beat) : (emit b s).stab = s.stab := rfl
@[simp] theorem emit_rst (b : Beat) : (emit b s).rst = s.rst := rfl
@[simp] theorem emit_cmdPort (b : Beat) : (emit b s).cmdPort = s.cmdPort := rfl
@[simp] theorem emit_wallSec (b : Beat) : (emit b s).wallSec = s.wallSec := rfl
@[simp] theorem emit_hostTakes (b : Beat) : (emit b s).hostTakes = s.hostTakes.map (· - 1) := rfl
@[simp] theorem emit_responses (b : Beat) : (emit b s).responses = s.responses := rfl
@[simp] theorem emit_beats (b : Beat) : (emit b s).beats = s.beats ++ [b] := rfl
@[simp] theorem emit_lcgSeed (b : Beat) : (emit b s).lcgSeed = s.lcgSeed := rfl
@[simp] theorem emit_resets (b : Beat) : (emit b s).resets = s.resets := rfl

/-! ### accept -/

@[simp] theorem accept_phase (t : Transfer) (l : List Transfer) : (accept t l s).phase = s.phase := rfl
@[simp] theorem accept_freq (t : Transfer) (l : List Transfer) : (accept t l s).freq = s.freq := rfl
@[simp] theorem accept_lcg (t : Transfer) (l : List Transfer) : (accept t l s).lcg = s.lcg := rfl
@[simp] theorem accept_symbolPhase (t : Transfer) (l : List Transfer) : (accept t l s).symbolPhase = s.symbolPhase := rfl
@[simp] theorem accept_symbolStep (t : Transfer) (l : List Transfer) : (accept t l s).symbolStep = s.symbolStep := rfl
@[simp] theorem accept_baseFreq (t : Transfer) (l : List Transfer) : (accept t l s).baseFreq = s.baseFreq := rfl
@[simp] theorem accept_shift1 (t : Transfer) (l : List Transfer) : (accept t l s).shift1 = s.shift1 := rfl
@[simp] theorem accept_shift2 (t : Transfer) (l : List Transfer) : (accept t l s).shift2 = s.shift2 := rfl
@[simp] theorem accept_swapOnStart (t : Transfer) (l : List Transfer) : (accept t l s).swapOnStart = s.swapOnStart := rfl
@[simp] theorem accept_active (t : Transfer) (l : List Transfer) : (accept t l s).active = s.active := rfl
@[simp] theorem accept_symbolIndex (t : Transfer) (l : List Transfer) : (accept t l s).symbolIndex = s.symbolIndex := rfl
@[simp] theorem accept_bandIndex (t : Transfer) (l : List Transfer) : (accept t l s).bandIndex = s.bandIndex := rfl
@[simp] theorem accept_freqCount (t : Transfer) (l : List Transfer) : (accept t l s).freqCount = s.freqCount := rfl
@[simp] theorem accept_symCount (t : Transfer) (l : List Transfer) : (accept t l s).symCount = s.symCount := rfl
@[simp] theorem accept_ready (t : Transfer) (l : List Transfer) : (accept t l s).ready = s.ready := rfl
@[simp] theorem accept_errflags (t : Transfer) (l : List Transfer) : (accept t l s).errflags = s.errflags := rfl
@[simp] theorem accept_fillRemaining (t : Transfer) (l : List Transfer) : (accept t l s).fillRemaining = s.fillRemaining := rfl
@[simp] theorem accept_ftab (t : Transfer) (l : List Transfer) : (accept t l s).ftab = s.ftab := rfl
@[simp] theorem accept_stab (t : Transfer) (l : List Transfer) : (accept t l s).stab = s.stab := rfl
@[simp] theorem accept_rst (t : Transfer) (l : List Transfer) : (accept t l s).rst = s.rst := rfl
@[simp] theorem accept_cmdPort (t : Transfer) (l : List Transfer) : (accept t l s).cmdPort = l := rfl
@[simp] theorem accept_wallSec (t : Transfer) (l : List Transfer) : (accept t l s).wallSec = t.wallSec := rfl
@[simp] theorem accept_hostTakes (t : Transfer) (l : List Transfer) : (accept t l s).hostTakes = s.hostTakes := rfl
@[simp] theorem accept_responses (t : Transfer) (l : List Transfer) : (accept t l s).responses = s.responses := rfl
@[simp] theorem accept_beats (t : Transfer) (l : List Transfer) : (accept t l s).beats = s.beats := rfl
@[simp] theorem accept_lcgSeed (t : Transfer) (l : List Transfer) : (accept t l s).lcgSeed = s.lcgSeed := rfl
@[simp] theorem accept_resets (t : Transfer) (l : List Transfer) : (accept t l s).resets = s.resets := rfl

/-! ### present -/

@[simp] theorem present_phase (w : Cmd) : (present w s).phase = s.phase := rfl
@[simp] theorem present_freq (w : Cmd) : (present w s).freq = s.freq := rfl
@[simp] theorem present_lcg (w : Cmd) : (present w s).lcg = s.lcg := rfl
@[simp] theorem present_symbolPhase (w : Cmd) : (present w s).symbolPhase = s.symbolPhase := rfl
@[simp] theorem present_symbolStep (w : Cmd) : (present w s).symbolStep = s.symbolStep := rfl
@[simp] theorem present_baseFreq (w : Cmd) : (present w s).baseFreq = s.baseFreq := rfl
@[simp] theorem present_shift1 (w : Cmd) : (present w s).shift1 = s.shift1 := rfl
@[simp] theorem present_shift2 (w : Cmd) : (present w s).shift2 = s.shift2 := rfl
@[simp] theorem present_swapOnStart (w : Cmd) : (present w s).swapOnStart = s.swapOnStart := rfl
@[simp] theorem present_active (w : Cmd) : (present w s).active = s.active := rfl
@[simp] theorem present_symbolIndex (w : Cmd) : (present w s).symbolIndex = s.symbolIndex := rfl
@[simp] theorem present_bandIndex (w : Cmd) : (present w s).bandIndex = s.bandIndex := rfl
@[simp] theorem present_freqCount (w : Cmd) : (present w s).freqCount = s.freqCount := rfl
@[simp] theorem present_symCount (w : Cmd) : (present w s).symCount = s.symCount := rfl
@[simp] theorem present_ready (w : Cmd) : (present w s).ready = s.ready := rfl
@[simp] theorem present_errflags (w : Cmd) : (present w s).errflags = s.errflags := rfl
@[simp] theorem present_fillRemaining (w : Cmd) : (present w s).fillRemaining = 0 := rfl
@[simp] theorem present_ftab (w : Cmd) : (present w s).ftab = s.ftab := rfl
@[simp] theorem present_stab (w : Cmd) : (present w s).stab = s.stab := rfl
@[simp] theorem present_rst (w : Cmd) : (present w s).rst = false := rfl
@[simp] theorem present_cmdPort (w : Cmd) : (present w s).cmdPort = { word := w, wallSec := s.wallSec } :: s.cmdPort := rfl
@[simp] theorem present_wallSec (w : Cmd) : (present w s).wallSec = s.wallSec := rfl
@[simp] theorem present_hostTakes (w : Cmd) : (present w s).hostTakes = s.hostTakes := rfl
@[simp] theorem present_responses (w : Cmd) : (present w s).responses = s.responses := rfl
@[simp] theorem present_beats (w : Cmd) : (present w s).beats = s.beats := rfl
@[simp] theorem present_lcgSeed (w : Cmd) : (present w s).lcgSeed = s.lcgSeed := rfl
@[simp] theorem present_resets (w : Cmd) : (present w s).resets = s.resets := rfl

/-! ### initialise -/

@[simp] theorem initialise_phase : (initialise s).phase = 0 := rfl
@[simp] theorem initialise_freq : (initialise s).freq = 0 := rfl
@[simp] theorem initialise_lcg : (initialise s).lcg = s.lcgSeed := rfl
@[simp] theorem initialise_symbolPhase : (initialise s).symbolPhase = 0 := rfl
@[simp] theorem initialise_symbolStep : (initialise s).symbolStep = s.symbolStep := rfl
@[simp] theorem initialise_baseFreq : (initialise s).baseFreq = 0 := rfl
@[simp] theorem initialise_shift1 : (initialise s).shift1 = s.shift1 := rfl
@[simp] theorem initialise_shift2 : (initialise s).shift2 = s.shift2 := rfl
@[simp] theorem initialise_swapOnStart : (initialise s).swapOnStart = s.swapOnStart := rfl
@[simp] theorem initialise_active : (initialise s).active = false := rfl
@[simp] theorem initialise_symbolIndex : (initialise s).symbolIndex = 0 := rfl
@[simp] theorem initialise_bandIndex : (initialise s).bandIndex = 0 := rfl
@[simp] theorem initialise_freqCount : (initialise s).freqCount = s.freqCount := rfl
@[simp] theorem initialise_symCount : (initialise s).symCount = s.symCount := rfl
@[simp] theorem initialise_ready : (initialise s).ready = true := rfl
@[simp] theorem initialise_errflags : (initialise s).errflags = s.errflags := rfl
@[simp] theorem initialise_fillRemaining : (initialise s).fillRemaining = s.fillRemaining := rfl
@[simp] theorem initialise_ftab : (initialise s).ftab = s.ftab := rfl
@[simp] theorem initialise_stab : (initialise s).stab = s.stab := rfl
@[simp] theorem initialise_rst : (initialise s).rst = s.rst := rfl
@[simp] theorem initialise_cmdPort : (initialise s).cmdPort = s.cmdPort := rfl
@[simp] theorem initialise_wallSec : (initialise s).wallSec = s.wallSec := rfl
@[simp] theorem initialise_hostTakes : (initialise s).hostTakes = s.hostTakes := rfl
@[simp] theorem initialise_responses : (initialise s).responses = s.responses := rfl
@[simp] theorem initialise_beats : (initialise s).beats = s.beats := rfl
@[simp] theorem initialise_lcgSeed : (initialise s).lcgSeed = s.lcgSeed := rfl
@[simp] theorem initialise_resets : (initialise s).resets = s.resets := rfl

/-! ### startFrame -/

@[simp] theorem startFrame_phase : (startFrame s).phase = 0 := rfl
@[simp] theorem startFrame_freq : (startFrame s).freq = toneWord (ftabRead s s.bandIndex.toNat) s.symbolStep (stabRead s 0) := rfl
@[simp] theorem startFrame_lcg : (startFrame s).lcg = s.lcg := rfl
@[simp] theorem startFrame_symbolPhase : (startFrame s).symbolPhase = 0 := rfl
@[simp] theorem startFrame_symbolStep : (startFrame s).symbolStep = s.symbolStep := rfl
@[simp] theorem startFrame_baseFreq : (startFrame s).baseFreq = ftabRead s s.bandIndex.toNat := rfl
@[simp] theorem startFrame_shift1 : (startFrame s).shift1 = if s.swapOnStart then s.shift2 else s.shift1 := rfl
@[simp] theorem startFrame_shift2 : (startFrame s).shift2 = if s.swapOnStart then s.shift1 else s.shift2 := rfl
@[simp] theorem startFrame_swapOnStart : (startFrame s).swapOnStart = s.swapOnStart := rfl
@[simp] theorem startFrame_active : (startFrame s).active = true := rfl
@[simp] theorem startFrame_symbolIndex : (startFrame s).symbolIndex = 0 := rfl
@[simp] theorem startFrame_bandIndex : (startFrame s).bandIndex = nextBand s := rfl
@[simp] theorem startFrame_freqCount : (startFrame s).freqCount = s.freqCount := rfl
@[simp] theorem startFrame_symCount : (startFrame s).symCount = s.symCount := rfl
@[simp] theorem startFrame_ready : (startFrame s).ready = s.ready := rfl
@[simp] theorem startFrame_errflags : (startFrame s).errflags = s.errflags := rfl
@[simp] theorem startFrame_fillRemaining : (startFrame s).fillRemaining = s.fillRemaining := rfl
@[simp] theorem startFrame_ftab : (startFrame s).ftab = s.ftab := rfl
@[simp] theorem startFrame_stab : (startFrame s).stab = s.stab := rfl
@[simp] theorem startFrame_rst : (startFrame s).rst = s.rst := rfl
@[simp] theorem startFrame_cmdPort : (startFrame s).cmdPort = s.cmdPort := rfl
@[simp] theorem startFrame_wallSec : (startFrame s).wallSec = s.wallSec := rfl
@[simp] theorem startFrame_hostTakes : (startFrame s).hostTakes = s.hostTakes := rfl
@[simp] theorem startFrame_responses : (startFrame s).responses = s.responses := rfl
@[simp] theorem startFrame_beats : (startFrame s).beats = s.beats := rfl
@[simp] theorem startFrame_lcgSeed : (startFrame s).lcgSeed = s.lcgSeed := rfl
@[simp] theorem startFrame_resets : (startFrame s).resets = s.resets := rfl

/-! ### endFrame -/

@[simp] theorem endFrame_phase : (endFrame s).phase = s.phase := rfl
@[simp] theorem endFrame_freq : (endFrame s).freq = s.freq := rfl
@[simp] theorem endFrame_lcg : (endFrame s).lcg = s.lcg := rfl
@[simp] theorem endFrame_symbolPhase : (endFrame s).symbolPhase = s.symbolPhase := rfl
@[simp] theorem endFrame_symbolStep : (endFrame s).symbolStep = s.symbolStep := rfl
@[simp] theorem endFrame_baseFreq : (endFrame s).baseFreq = s.baseFreq := rfl
@[simp] theorem endFrame_shift1 : (endFrame s).shift1 = s.shift1 := rfl
@[simp] theorem endFrame_shift2 : (endFrame s).shift2 = s.shift2 := rfl
@[simp] theorem endFrame_swapOnStart : (endFrame s).swapOnStart = s.swapOnStart := rfl
@[simp] theorem endFrame_active : (endFrame s).active = false := rfl
@[simp] theorem endFrame_symbolIndex : (endFrame s).symbolIndex = s.symbolIndex := rfl
@[simp] theorem endFrame_bandIndex : (endFrame s).bandIndex = s.bandIndex := rfl
@[simp] theorem endFrame_freqCount : (endFrame s).freqCount = s.freqCount := rfl
@[simp] theorem endFrame_symCount : (endFrame s).symCount = s.symCount := rfl
@[simp] theorem endFrame_ready : (endFrame s).ready = s.ready := rfl
@[simp] theorem endFrame_errflags : (endFrame s).errflags = s.errflags := rfl
@[simp] theorem endFrame_fillRemaining : (endFrame s).fillRemaining = s.fillRemaining := rfl
@[simp] theorem endFrame_ftab : (endFrame s).ftab = s.ftab := rfl
@[simp] theorem endFrame_stab : (endFrame s).stab = s.stab := rfl
@[simp] theorem endFrame_rst : (endFrame s).rst = s.rst := rfl
@[simp] theorem endFrame_cmdPort : (endFrame s).cmdPort = s.cmdPort := rfl
@[simp] theorem endFrame_wallSec : (endFrame s).wallSec = s.wallSec := rfl
@[simp] theorem endFrame_hostTakes : (endFrame s).hostTakes = s.hostTakes := rfl
@[simp] theorem endFrame_responses : (endFrame s).responses = s.responses := rfl
@[simp] theorem endFrame_beats : (endFrame s).beats = s.beats := rfl
@[simp] theorem endFrame_lcgSeed : (endFrame s).lcgSeed = s.lcgSeed := rfl
@[simp] theorem endFrame_resets : (endFrame s).resets = s.resets := rfl

/-! ### toneUpdate -/

@[simp] theorem toneUpdate_phase : (toneUpdate s).phase = s.phase := rfl
@[simp] theorem toneUpdate_freq : (toneUpdate s).freq = toneWord s.baseFreq s.symbolStep (stabRead s s.symbolIndex.toNat) := rfl
@[simp] theorem toneUpdate_lcg : (toneUpdate s).lcg = s.lcg := rfl
@[simp] theorem toneUpdate_symbolPhase : (toneUpdate s).symbolPhase = s.symbolPhase := rfl
@[simp] theorem toneUpdate_symbolStep : (toneUpdate s).symbolStep = s.symbolStep := rfl
@[simp] theorem toneUpdate_baseFreq : (toneUpdate s).baseFreq = s.baseFreq := rfl
@[simp] theorem toneUpdate_shift1 : (toneUpdate s).shift1 = s.shift1 := rfl
@[simp] theorem toneUpdate_shift2 : (toneUpdate s).shift2 = s.shift2 := rfl
@[simp] theorem toneUpdate_swapOnStart : (toneUpdate s).swapOnStart = s.swapOnStart := rfl
@[simp] theorem toneUpdate_active : (toneUpdate s).active = s.active := rfl
@[simp] theorem toneUpdate_symbolIndex : (toneUpdate s).symbolIndex = s.symbolIndex := rfl
@[simp] theorem toneUpdate_bandIndex : (toneUpdate s).bandIndex = s.bandIndex := rfl
@[simp] theorem toneUpdate_freqCount : (toneUpdate s).freqCount = s.freqCount := rfl
@[simp] theorem toneUpdate_symCount : (toneUpdate s).symCount = s.symCount := rfl
@[simp] theorem toneUpdate_ready : (toneUpdate s).ready = s.ready := rfl
@[simp] theorem toneUpdate_errflags : (toneUpdate s).errflags = s.errflags := rfl
@[simp] theorem toneUpdate_fillRemaining : (toneUpdate s).fillRemaining = s.fillRemaining := rfl
@[simp] theorem toneUpdate_ftab : (toneUpdate s).ftab = s.ftab := rfl
@[simp] theorem toneUpdate_stab : (toneUpdate s).stab = s.stab := rfl
@[simp] theorem toneUpdate_rst : (toneUpdate s).rst = s.rst := rfl
@[simp] theorem toneUpdate_cmdPort : (toneUpdate s).cmdPort = s.cmdPort := rfl
@[simp] theorem toneUpdate_wallSec : (toneUpdate s).wallSec = s.wallSec := rfl
@[simp] theorem toneUpdate_hostTakes : (toneUpdate s).hostTakes = s.hostTakes := rfl
@[simp] theorem toneUpdate_responses : (toneUpdate s).responses = s.responses := rfl
@[simp] theorem toneUpdate_beats : (toneUpdate s).beats = s.beats := rfl
@[simp] theorem toneUpdate_lcgSeed : (toneUpdate s).lcgSeed = s.lcgSeed := rfl
@[simp] theorem toneUpdate_resets : (toneUpdate s).resets = s.resets := rfl

/-! ### accumulate -/

@[simp] theorem accumulate_phase : (accumulate s).phase = s.phase + s.freq := rfl
@[simp] theorem accumulate_freq : (accumulate s).freq = s.freq := rfl
@[simp] theorem accumulate_lcg : (accumulate s).lcg = s.lcg := rfl
@[simp] theorem accumulate_symbolPhase : (accumulate s).symbolPhase = s.symbolPhase + s.symbolStep := rfl
@[simp] theorem accumulate_symbolStep : (accumulate s).symbolStep = s.symbolStep := rfl
@[simp] theorem accumulate_baseFreq : (accumulate s).baseFreq = s.baseFreq := rfl
@[simp] theorem accumulate_shift1 : (accumulate s).shift1 = s.shift1 := rfl
@[simp] theorem accumulate_shift2 : (accumulate s).shift2 = s.shift2 := rfl
@[simp] theorem accumulate_swapOnStart : (accumulate s).swapOnStart = s.swapOnStart := rfl
@[simp] theorem accumulate_active : (accumulate s).active = s.active := rfl
@[simp] theorem accumulate_symbolIndex : (accumulate s).symbolIndex = s.symbolIndex := rfl
@[simp] theorem accumulate_bandIndex : (accumulate s).bandIndex = s.bandIndex := rfl
@[simp] theorem accumulate_freqCount : (accumulate s).freqCount = s.freqCount := rfl
@[simp] theorem accumulate_symCount : (accumulate s).symCount = s.symCount := rfl
@[simp] theorem accumulate_ready : (accumulate s).ready = s.ready := rfl
@[simp] theorem accumulate_errflags : (accumulate s).errflags = s.errflags := rfl
@[simp] theorem accumulate_fillRemaining : (accumulate s).fillRemaining = s.fillRemaining := rfl
@[simp] theorem accumulate_ftab : (accumulate s).ftab = s.ftab := rfl
@[simp] theorem accumulate_stab : (accumulate s).stab = s.stab := rfl
@[simp] theorem accumulate_rst : (accumulate s).rst = s.rst := rfl
@[simp] theorem accumulate_cmdPort : (accumulate s).cmdPort = s.cmdPort := rfl
@[simp] theorem accumulate_wallSec : (accumulate s).wallSec = s.wallSec := rfl
@[simp] theorem accumulate_hostTakes : (accumulate s).hostTakes = s.hostTakes := rfl
@[simp] theorem accumulate_responses : (accumulate s).responses = s.responses := rfl
@[simp] theorem accumulate_beats : (accumulate s).beats = s.beats := rfl
@[simp] theorem accumulate_lcgSeed : (accumulate s).lcgSeed = s.lcgSeed := rfl
@[simp] theorem accumulate_resets : (accumulate s).resets = s.resets := rfl

/-! ### ditherStep -/

@[simp] theorem ditherStep_phase : (ditherStep s).phase = s.phase := rfl
@[simp] theorem ditherStep_freq : (ditherStep s).freq = s.freq := rfl
@[simp] theorem ditherStep_lcg : (ditherStep s).lcg = ditherNext s.lcg := rfl
@[simp] theorem ditherStep_symbolPhase : (ditherStep s).symbolPhase = s.symbolPhase := rfl
@[simp] theorem ditherStep_symbolStep : (ditherStep s).symbolStep = s.symbolStep := rfl
@[simp] theorem ditherStep_baseFreq : (ditherStep s).baseFreq = s.baseFreq := rfl
@[simp] theorem ditherStep_shift1 : (ditherStep s).shift1 = s.shift1 := rfl
@[simp] theorem ditherStep_shift2 : (ditherStep s).shift2 = s.shift2 := rfl
@[simp] theorem ditherStep_swapOnStart : (ditherStep s).swapOnStart = s.swapOnStart := rfl
@[simp] theorem ditherStep_active : (ditherStep s).active = s.active := rfl
@[simp] theorem ditherStep_symbolIndex : (ditherStep s).symbolIndex = s.symbolIndex := rfl
@[simp] theorem ditherStep_bandIndex : (ditherStep s).bandIndex = s.bandIndex := rfl
@[simp] theorem ditherStep_freqCount : (ditherStep s).freqCount = s.freqCount := rfl
@[simp] theorem ditherStep_symCount : (ditherStep s).symCount = s.symCount := rfl
@[simp] theorem ditherStep_ready : (ditherStep s).ready = s.ready := rfl
@[simp] theorem ditherStep_errflags : (ditherStep s).errflags = s.errflags := rfl
@[simp] theorem ditherStep_fillRemaining : (ditherStep s).fillRemaining = s.fillRemaining := rfl
@[simp] theorem ditherStep_ftab : (ditherStep s).ftab = s.ftab := rfl
@[simp] theorem ditherStep_stab : (ditherStep s).stab = s.stab := rfl
@[simp] theorem ditherStep_rst : (ditherStep s).rst = s.rst := rfl
@[simp] theorem ditherStep_cmdPort : (ditherStep s).cmdPort = s.cmdPort := rfl
@[simp] theorem ditherStep_wallSec : (ditherStep s).wallSec = s.wallSec := rfl
@[simp] theorem ditherStep_hostTakes : (ditherStep s).hostTakes = s.hostTakes := rfl
@[simp] theorem ditherStep_responses : (ditherStep s).responses = s.responses := rfl
@[simp] theorem ditherStep_beats : (ditherStep s).beats = s.beats := rfl
@[simp] theorem ditherStep_lcgSeed : (ditherStep s).lcgSeed = s.lcgSeed := rfl
@[simp] theorem ditherStep_resets : (ditherStep s).resets = s.resets := rfl

/-! ### resetEdge -/

@[simp] theorem resetEdge_phase : (resetEdge s).phase = 0 := rfl
@[simp] theorem resetEdge_freq : (resetEdge s).freq = 0 := rfl
@[simp] theorem resetEdge_lcg : (resetEdge s).lcg = 0 := rfl
@[simp] theorem resetEdge_symbolPhase : (resetEdge s).symbolPhase = 0 := rfl
@[simp] theorem resetEdge_symbolStep : (resetEdge s).symbolStep = 0 := rfl
@[simp] theorem resetEdge_baseFreq : (resetEdge s).baseFreq = 0 := rfl
@[simp] theorem resetEdge_shift1 : (resetEdge s).shift1 = 0 := rfl
@[simp] theorem resetEdge_shift2 : (resetEdge s).shift2 = 0 := rfl
@[simp] theorem resetEdge_swapOnStart : (resetEdge s).swapOnStart = false := rfl
@[simp] theorem resetEdge_active : (resetEdge s).active = false := rfl
@[simp] theorem resetEdge_symbolIndex : (resetEdge s).symbolIndex = 0 := rfl
@[simp] theorem resetEdge_bandIndex : (resetEdge s).bandIndex = 0 := rfl
@[simp] theorem resetEdge_freqCount : (resetEdge s).freqCount = 0 := rfl
@[simp] theorem resetEdge_symCount : (resetEdge s).symCount = 0 := rfl
@[simp] theorem resetEdge_ready : (resetEdge s).ready = false := rfl
@[simp] theorem resetEdge_errflags : (resetEdge s).errflags = 0 := rfl
@[simp] theorem resetEdge_fillRemaining : (resetEdge s).fillRemaining = 0 := rfl
@[simp] theorem resetEdge_ftab : (resetEdge s).ftab = Vector.ofFn fun k => Config.ftabUnspecified s.resets k := rfl
@[simp] theorem resetEdge_stab : (resetEdge s).stab = Vector.ofFn fun k => Config.stabUnspecified s.resets k := rfl
@[simp] theorem resetEdge_rst : (resetEdge s).rst = false := rfl
@[simp] theorem resetEdge_cmdPort : (resetEdge s).cmdPort = s.cmdPort := rfl
@[simp] theorem resetEdge_wallSec : (resetEdge s).wallSec = s.wallSec := rfl
@[simp] theorem resetEdge_hostTakes : (resetEdge s).hostTakes = s.hostTakes := rfl
@[simp] theorem resetEdge_responses : (resetEdge s).responses = s.responses := rfl
@[simp] theorem resetEdge_beats : (resetEdge s).beats = s.beats := rfl
@[simp] theorem resetEdge_lcgSeed : (resetEdge s).lcgSeed = s.lcgSeed := rfl
@[simp] theorem resetEdge_resets : (resetEdge s).resets = s.resets + 1 := rfl

/-! ### symbolBoundary -/

@[simp] theorem symbolBoundary_phase : (symbolBoundary s).phase = s.phase := by unfold symbolBoundary; dsimp only; split <;> simp
@[simp] theorem symbolBoundary_lcg : (symbolBoundary s).lcg = s.lcg := by unfold symbolBoundary; dsimp only; split <;> simp
@[simp] theorem symbolBoundary_symbolPhase : (symbolBoundary s).symbolPhase = s.symbolPhase := by unfold symbolBoundary; dsimp only; split <;> simp
@[simp] theorem symbolBoundary_symbolStep : (symbolBoundary s).symbolStep = s.symbolStep := by unfold symbolBoundary; dsimp only; split <;> simp
@[simp] theorem symbolBoundary_baseFreq : (symbolBoundary s).baseFreq = s.baseFreq := by unfold symbolBoundary; dsimp only; split <;> simp
@[simp] theorem symbolBoundary_shift1 : (symbolBoundary s).shift1 = s.shift1 := by unfold symbolBoundary; dsimp only; split <;> simp
@[simp] theorem symbolBoundary_shift2 : (symbolBoundary s).shift2 = s.shift2 := by unfold symbolBoundary; dsimp only; split <;> simp
@[simp] theorem symbolBoundary_swapOnStart : (symbolBoundary s).swapOnStart = s.swapOnStart := by unfold symbolBoundary; dsimp only; split <;> simp
@[simp] theorem symbolBoundary_bandIndex : (symbolBoundary s).bandIndex = s.bandIndex := by unfold symbolBoundary; dsimp only; split <;> simp
@[simp] theorem symbolBoundary_freqCount : (symbolBoundary s).freqCount = s.freqCount := by unfold symbolBoundary; dsimp only; split <;> simp
@[simp] theorem symbolBoundary_symCount : (symbolBoundary s).symCount = s.symCount := by unfold symbolBoundary; dsimp only; split <;> simp
@[simp] theorem symbolBoundary_ready : (symbolBoundary s).ready = s.ready := by unfold symbolBoundary; dsimp only; split <;> simp
@[simp] theorem symbolBoundary_errflags : (symbolBoundary s).errflags = s.errflags := by unfold symbolBoundary; dsimp only; split <;> simp
@[simp] theorem symbolBoundary_fillRemaining : (symbolBoundary s).fillRemaining = s.fillRemaining := by unfold symbolBoundary; dsimp only; split <;> simp
@[simp] theorem symbolBoundary_ftab : (symbolBoundary s).ftab = s.ftab := by unfold symbolBoundary; dsimp only; split <;> simp
@[simp] theorem symbolBoundary_stab : (symbolBoundary s).stab = s.stab := by unfold symbolBoundary; dsimp only; split <;> simp
@[simp] theorem symbolBoundary_rst : (symbolBoundary s).rst = s.rst := by unfold symbolBoundary; dsimp only; split <;> simp
@[simp] theorem symbolBoundary_cmdPort : (symbolBoundary s).cmdPort = s.cmdPort := by unfold symbolBoundary; dsimp only; split <;> simp
@[simp] theorem symbolBoundary_wallSec : (symbolBoundary s).wallSec = s.wallSec := by unfold symbolBoundary; dsimp only; split <;> simp
@[simp] theorem symbolBoundary_hostTakes : (symbolBoundary s).hostTakes = s.hostTakes := by unfold symbolBoundary; dsimp only; split <;> simp
@[simp] theorem symbolBoundary_responses : (symbolBoundary s).responses = s.responses := by unfold symbolBoundary; dsimp only; split <;> simp
@[simp] theorem symbolBoundary_beats : (symbolBoundary s).beats = s.beats := by unfold symbolBoundary; dsimp only; split <;> simp
@[simp] theorem symbolBoundary_lcgSeed : (symbolBoundary s).lcgSeed = s.lcgSeed := by unfold symbolBoundary; dsimp only; split <;> simp
@[simp] theorem symbolBoundary_resets : (symbolBoundary s).resets = s.resets := by unfold symbolBoundary; dsimp only; split <;> simp

/-! ### advance -/

@[simp] theorem advance_lcg : (advance s).lcg = s.lcg := by unfold advance; split <;> simp
@[simp] theorem advance_symbolStep : (advance s).symbolStep = s.symbolStep := by unfold advance; split <;> simp
@[simp] theorem advance_baseFreq : (advance s).baseFreq = s.baseFreq := by unfold advance; split <;> simp
@[simp] theorem advance_shift1 : (advance s).shift1 = s.shift1 := by unfold advance; split <;> simp
@[simp] theorem advance_shift2 : (advance s).shift2 = s.shift2 := by unfold advance; split <;> simp
@[simp] theorem advance_swapOnStart : (advance s).swapOnStart = s.swapOnStart := by unfold advance; split <;> simp
@[simp] theorem advance_bandIndex : (advance s).bandIndex = s.bandIndex := by unfold advance; split <;> simp
@[simp] theorem advance_freqCount : (advance s).freqCount = s.freqCount := by unfold advance; split <;> simp
@[simp] theorem advance_symCount : (advance s).symCount = s.symCount := by unfold advance; split <;> simp
@[simp] theorem advance_ready : (advance s).ready = s.ready := by unfold advance; split <;> simp
@[simp] theorem advance_errflags : (advance s).errflags = s.errflags := by unfold advance; split <;> simp
@[simp] theorem advance_fillRemaining : (advance s).fillRemaining = s.fillRemaining := by unfold advance; split <;> simp
@[simp] theorem advance_ftab : (advance s).ftab = s.ftab := by unfold advance; split <;> simp
@[simp] theorem advance_stab : (advance s).stab = s.stab := by unfold advance; split <;> simp
@[simp] theorem advance_rst : (advance s).rst = s.rst := by unfold advance; split <;> simp
@[simp] theorem advance_cmdPort : (advance s).cmdPort = s.cmdPort := by unfold advance; split <;> simp
@[simp] theorem advance_wallSec : (advance s).wallSec = s.wallSec := by unfold advance; split <;> simp
@[simp] theorem advance_hostTakes : (advance s).hostTakes = s.hostTakes := by unfold advance; split <;> simp
@[simp] theorem advance_responses : (advance s).responses = s.responses := by unfold advance; split <;> simp
@[simp] theorem advance_beats : (advance s).beats = s.beats := by unfold advance; split <;> simp
@[simp] theorem advance_lcgSeed : (advance s).lcgSeed = s.lcgSeed := by unfold advance; split <;> simp
@[simp] theorem advance_resets : (advance s).resets = s.resets := by unfold advance; split <;> simp

/-! ### schedule -/

@[simp] theorem schedule_lcg : (schedule s).lcg = s.lcg := by unfold schedule; split <;> simp
@[simp] theorem schedule_symbolStep : (schedule s).symbolStep = s.symbolStep := by unfold schedule; split <;> simp
@[simp] theorem schedule_swapOnStart : (schedule s).swapOnStart = s.swapOnStart := by unfold schedule; split <;> simp
@[simp] theorem schedule_freqCount : (schedule s).freqCount = s.freqCount := by unfold schedule; split <;> simp
@[simp] theorem schedule_symCount : (schedule s).symCount = s.symCount := by unfold schedule; split <;> simp
@[simp] theorem schedule_ready : (schedule s).ready = s.ready := by unfold schedule; split <;> simp
@[simp] theorem schedule_errflags : (schedule s).errflags = s.errflags := by unfold schedule; split <;> simp
@[simp] theorem schedule_fillRemaining : (schedule s).fillRemaining = s.fillRemaining := by unfold schedule; split <;> simp
@[simp] theorem schedule_ftab : (schedule s).ftab = s.ftab := by unfold schedule; split <;> simp
@[simp] theorem schedule_stab : (schedule s).stab = s.stab := by unfold schedule; split <;> simp
@[simp] theorem schedule_rst : (schedule s).rst = s.rst := by unfold schedule; split <;> simp
@[simp] theorem schedule_cmdPort : (schedule s).cmdPort = s.cmdPort := by unfold schedule; split <;> simp
@[simp] theorem schedule_wallSec : (schedule s).wallSec = s.wallSec := by unfold schedule; split <;> simp
@[simp] theorem schedule_hostTakes : (schedule s).hostTakes = s.hostTakes := by unfold schedule; split <;> simp
@[simp] theorem schedule_responses : (schedule s).responses = s.responses := by unfold schedule; split <;> simp
@[simp] theorem schedule_beats : (schedule s).beats = s.beats := by unfold schedule; split <;> simp
@[simp] theorem schedule_lcgSeed : (schedule s).lcgSeed = s.lcgSeed := by unfold schedule; split <;> simp
@[simp] theorem schedule_resets : (schedule s).resets = s.resets := by unfold schedule; split <;> simp

/-! ### sample -/

@[simp] theorem sample_symbolStep : (sample s).symbolStep = s.symbolStep := by unfold sample; split <;> simp
@[simp] theorem sample_baseFreq : (sample s).baseFreq = s.baseFreq := by unfold sample; split <;> simp
@[simp] theorem sample_shift1 : (sample s).shift1 = s.shift1 := by unfold sample; split <;> simp
@[simp] theorem sample_shift2 : (sample s).shift2 = s.shift2 := by unfold sample; split <;> simp
@[simp] theorem sample_swapOnStart : (sample s).swapOnStart = s.swapOnStart := by unfold sample; split <;> simp
@[simp] theorem sample_bandIndex : (sample s).bandIndex = s.bandIndex := by unfold sample; split <;> simp
@[simp] theorem sample_freqCount : (sample s).freqCount = s.freqCount := by unfold sample; split <;> simp
@[simp] theorem sample_symCount : (sample s).symCount = s.symCount := by unfold sample; split <;> simp
@[simp] theorem sample_ready : (sample s).ready = s.ready := by unfold sample; split <;> simp
@[simp] theorem sample_errflags : (sample s).errflags = s.errflags := by unfold sample; split <;> simp
@[simp] theorem sample_fillRemaining : (sample s).fillRemaining = s.fillRemaining := by unfold sample; split <;> simp
@[simp] theorem sample_ftab : (sample s).ftab = s.ftab := by unfold sample; split <;> simp
@[simp] theorem sample_stab : (sample s).stab = s.stab := by unfold sample; split <;> simp
@[simp] theorem sample_rst : (sample s).rst = s.rst := by unfold sample; split <;> simp
@[simp] theorem sample_cmdPort : (sample s).cmdPort = s.cmdPort := by unfold sample; split <;> simp
@[simp] theorem sample_wallSec : (sample s).wallSec = s.wallSec := by unfold sample; split <;> simp
@[simp] theorem sample_responses : (sample s).responses = s.responses := by unfold sample; split <;> simp
@[simp] theorem sample_lcgSeed : (sample s).lcgSeed = s.lcgSeed := by unfold sample; split <;> simp
@[simp] theorem sample_resets : (sample s).resets = s.resets := by unfold sample; split <;> simp

/-! ### fillTurn -/

@[simp] theorem fillTurn_symbolStep : (fillTurn s).symbolStep = s.symbolStep := sample_symbolStep s
@[simp] theorem fillTurn_baseFreq : (fillTurn s).baseFreq = s.baseFreq := sample_baseFreq s
@[simp] theorem fillTurn_shift1 : (fillTurn s).shift1 = s.shift1 := sample_shift1 s
@[simp] theorem fillTurn_shift2 : (fillTurn s).shift2 = s.shift2 := sample_shift2 s
@[simp] theorem fillTurn_swapOnStart : (fillTurn s).swapOnStart = s.swapOnStart := sample_swapOnStart s
@[simp] theorem fillTurn_bandIndex : (fillTurn s).bandIndex = s.bandIndex := sample_bandIndex s
@[simp] theorem fillTurn_freqCount : (fillTurn s).freqCount = s.freqCount := sample_freqCount s
@[simp] theorem fillTurn_symCount : (fillTurn s).symCount = s.symCount := sample_symCount s
@[simp] theorem fillTurn_ready : (fillTurn s).ready = s.ready := sample_ready s
@[simp] theorem fillTurn_errflags : (fillTurn s).errflags = s.errflags := sample_errflags s
@[simp] theorem fillTurn_ftab : (fillTurn s).ftab = s.ftab := sample_ftab s
@[simp] theorem fillTurn_stab : (fillTurn s).stab = s.stab := sample_stab s
@[simp] theorem fillTurn_rst : (fillTurn s).rst = s.rst := sample_rst s
@[simp] theorem fillTurn_cmdPort : (fillTurn s).cmdPort = s.cmdPort := sample_cmdPort s
@[simp] theorem fillTurn_wallSec : (fillTurn s).wallSec = s.wallSec := sample_wallSec s
@[simp] theorem fillTurn_responses : (fillTurn s).responses = s.responses := sample_responses s
@[simp] theorem fillTurn_lcgSeed : (fillTurn s).lcgSeed = s.lcgSeed := sample_lcgSeed s
@[simp] theorem fillTurn_resets : (fillTurn s).resets = s.resets := sample_resets s

/-! ### fillRespond -/

@[simp] theorem fillRespond_phase : (fillRespond s).phase = s.phase := by unfold fillRespond; split <;> simp
@[simp] theorem fillRespond_freq : (fillRespond s).freq = s.freq := by unfold fillRespond; split <;> simp
@[simp] theorem fillRespond_lcg : (fillRespond s).lcg = s.lcg := by unfold fillRespond; split <;> simp
@[simp] theorem fillRespond_symbolPhase : (fillRespond s).symbolPhase = s.symbolPhase := by unfold fillRespond; split <;> simp
@[simp] theorem fillRespond_symbolStep : (fillRespond s).symbolStep = s.symbolStep := by unfold fillRespond; split <;> simp
@[simp] theorem fillRespond_baseFreq : (fillRespond s).baseFreq = s.baseFreq := by unfold fillRespond; split <;> simp
@[simp] theorem fillRespond_shift1 : (fillRespond s).shift1 = s.shift1 := by unfold fillRespond; split <;> simp
@[simp] theorem fillRespond_shift2 : (fillRespond s).shift2 = s.shift2 := by unfold fillRespond; split <;> simp
@[simp] theorem fillRespond_swapOnStart : (fillRespond s).swapOnStart = s.swapOnStart := by unfold fillRespond; split <;> simp
@[simp] theorem fillRespond_active : (fillRespond s).active = s.active := by unfold fillRespond; split <;> simp
@[simp] theorem fillRespond_symbolIndex : (fillRespond s).symbolIndex = s.symbolIndex := by unfold fillRespond; split <;> simp
@[simp] theorem fillRespond_bandIndex : (fillRespond s).bandIndex = s.bandIndex := by unfold fillRespond; split <;> simp
@[simp] theorem fillRespond_freqCount : (fillRespond s).freqCount = s.freqCount := by unfold fillRespond; split <;> simp
@[simp] theorem fillRespond_symCount : (fillRespond s).symCount = s.symCount := by unfold fillRespond; split <;> simp
@[simp] theorem fillRespond_ready : (fillRespond s).ready = s.ready := by unfold fillRespond; split <;> simp
@[simp] theorem fillRespond_errflags : (fillRespond s).errflags = s.errflags := by unfold fillRespond; split <;> simp
@[simp] theorem fillRespond_fillRemaining : (fillRespond s).fillRemaining = s.fillRemaining := by unfold fillRespond; split <;> simp
@[simp] theorem fillRespond_ftab : (fillRespond s).ftab = s.ftab := by unfold fillRespond; split <;> simp
@[simp] theorem fillRespond_stab : (fillRespond s).stab = s.stab := by unfold fillRespond; split <;> simp
@[simp] theorem fillRespond_rst : (fillRespond s).rst = s.rst := by unfold fillRespond; split <;> simp
@[simp] theorem fillRespond_cmdPort : (fillRespond s).cmdPort = s.cmdPort := by unfold fillRespond; split <;> simp
@[simp] theorem fillRespond_wallSec : (fillRespond s).wallSec = s.wallSec := by unfold fillRespond; split <;> simp
@[simp] theorem fillRespond_hostTakes : (fillRespond s).hostTakes = s.hostTakes := by unfold fillRespond; split <;> simp
@[simp] theorem fillRespond_beats : (fillRespond s).beats = s.beats := by unfold fillRespond; split <;> simp
@[simp] theorem fillRespond_lcgSeed : (fillRespond s).lcgSeed = s.lcgSeed := by unfold fillRespond; split <;> simp
@[simp] theorem fillRespond_resets : (fillRespond s).resets = s.resets := by unfold fillRespond; split <;> simp

/-! ### fillTurns and fillLoop -/

@[simp] theorem fillTurns_symbolStep (n : Nat) : ∀ s, (fillTurns n s).symbolStep = s.symbolStep := by
  induction n with
  | zero => exact fun s => rfl
  | succ n ih => intro s; unfold fillTurns; split <;> simp [ih]
@[simp] theorem fillTurns_baseFreq (n : Nat) : ∀ s, (fillTurns n s).baseFreq = s.baseFreq := by
  induction n with
  | zero => exact fun s => rfl
  | succ n ih => intro s; unfold fillTurns; split <;> simp [ih]
@[simp] theorem fillTurns_shift1 (n : Nat) : ∀ s, (fillTurns n s).shift1 = s.shift1 := by
  induction n with
  | zero => exact fun s => rfl
  | succ n ih => intro s; unfold fillTurns; split <;> simp [ih]
@[simp] theorem fillTurns_shift2 (n : Nat) : ∀ s, (fillTurns n s).shift2 = s.shift2 := by
  induction n with
  | zero => exact fun s => rfl
  | succ n ih => intro s; unfold fillTurns; split <;> simp [ih]
@[simp] theorem fillTurns_swapOnStart (n : Nat) : ∀ s, (fillTurns n s).swapOnStart = s.swapOnStart := by
  induction n with
  | zero => exact fun s => rfl
  | succ n ih => intro s; unfold fillTurns; split <;> simp [ih]
@[simp] theorem fillTurns_bandIndex (n : Nat) : ∀ s, (fillTurns n s).bandIndex = s.bandIndex := by
  induction n with
  | zero => exact fun s => rfl
  | succ n ih => intro s; unfold fillTurns; split <;> simp [ih]
@[simp] theorem fillTurns_freqCount (n : Nat) : ∀ s, (fillTurns n s).freqCount = s.freqCount := by
  induction n with
  | zero => exact fun s => rfl
  | succ n ih => intro s; unfold fillTurns; split <;> simp [ih]
@[simp] theorem fillTurns_symCount (n : Nat) : ∀ s, (fillTurns n s).symCount = s.symCount := by
  induction n with
  | zero => exact fun s => rfl
  | succ n ih => intro s; unfold fillTurns; split <;> simp [ih]
@[simp] theorem fillTurns_ready (n : Nat) : ∀ s, (fillTurns n s).ready = s.ready := by
  induction n with
  | zero => exact fun s => rfl
  | succ n ih => intro s; unfold fillTurns; split <;> simp [ih]
@[simp] theorem fillTurns_errflags (n : Nat) : ∀ s, (fillTurns n s).errflags = s.errflags := by
  induction n with
  | zero => exact fun s => rfl
  | succ n ih => intro s; unfold fillTurns; split <;> simp [ih]
@[simp] theorem fillTurns_ftab (n : Nat) : ∀ s, (fillTurns n s).ftab = s.ftab := by
  induction n with
  | zero => exact fun s => rfl
  | succ n ih => intro s; unfold fillTurns; split <;> simp [ih]
@[simp] theorem fillTurns_stab (n : Nat) : ∀ s, (fillTurns n s).stab = s.stab := by
  induction n with
  | zero => exact fun s => rfl
  | succ n ih => intro s; unfold fillTurns; split <;> simp [ih]
@[simp] theorem fillTurns_rst (n : Nat) : ∀ s, (fillTurns n s).rst = s.rst := by
  induction n with
  | zero => exact fun s => rfl
  | succ n ih => intro s; unfold fillTurns; split <;> simp [ih]
@[simp] theorem fillTurns_cmdPort (n : Nat) : ∀ s, (fillTurns n s).cmdPort = s.cmdPort := by
  induction n with
  | zero => exact fun s => rfl
  | succ n ih => intro s; unfold fillTurns; split <;> simp [ih]
@[simp] theorem fillTurns_wallSec (n : Nat) : ∀ s, (fillTurns n s).wallSec = s.wallSec := by
  induction n with
  | zero => exact fun s => rfl
  | succ n ih => intro s; unfold fillTurns; split <;> simp [ih]
@[simp] theorem fillTurns_responses (n : Nat) : ∀ s, (fillTurns n s).responses = s.responses := by
  induction n with
  | zero => exact fun s => rfl
  | succ n ih => intro s; unfold fillTurns; split <;> simp [ih]
@[simp] theorem fillTurns_lcgSeed (n : Nat) : ∀ s, (fillTurns n s).lcgSeed = s.lcgSeed := by
  induction n with
  | zero => exact fun s => rfl
  | succ n ih => intro s; unfold fillTurns; split <;> simp [ih]
@[simp] theorem fillTurns_resets (n : Nat) : ∀ s, (fillTurns n s).resets = s.resets := by
  induction n with
  | zero => exact fun s => rfl
  | succ n ih => intro s; unfold fillTurns; split <;> simp [ih]
@[simp] theorem fillLoop_symbolStep : (fillLoop s).symbolStep = s.symbolStep := by simp [fillLoop]
@[simp] theorem fillLoop_baseFreq : (fillLoop s).baseFreq = s.baseFreq := by simp [fillLoop]
@[simp] theorem fillLoop_shift1 : (fillLoop s).shift1 = s.shift1 := by simp [fillLoop]
@[simp] theorem fillLoop_shift2 : (fillLoop s).shift2 = s.shift2 := by simp [fillLoop]
@[simp] theorem fillLoop_swapOnStart : (fillLoop s).swapOnStart = s.swapOnStart := by simp [fillLoop]
@[simp] theorem fillLoop_bandIndex : (fillLoop s).bandIndex = s.bandIndex := by simp [fillLoop]
@[simp] theorem fillLoop_freqCount : (fillLoop s).freqCount = s.freqCount := by simp [fillLoop]
@[simp] theorem fillLoop_symCount : (fillLoop s).symCount = s.symCount := by simp [fillLoop]
@[simp] theorem fillLoop_ready : (fillLoop s).ready = s.ready := by simp [fillLoop]
@[simp] theorem fillLoop_errflags : (fillLoop s).errflags = s.errflags := by simp [fillLoop]
@[simp] theorem fillLoop_ftab : (fillLoop s).ftab = s.ftab := by simp [fillLoop]
@[simp] theorem fillLoop_stab : (fillLoop s).stab = s.stab := by simp [fillLoop]
@[simp] theorem fillLoop_rst : (fillLoop s).rst = s.rst := by simp [fillLoop]
@[simp] theorem fillLoop_cmdPort : (fillLoop s).cmdPort = s.cmdPort := by simp [fillLoop]
@[simp] theorem fillLoop_wallSec : (fillLoop s).wallSec = s.wallSec := by simp [fillLoop]
@[simp] theorem fillLoop_lcgSeed : (fillLoop s).lcgSeed = s.lcgSeed := by simp [fillLoop]
@[simp] theorem fillLoop_resets : (fillLoop s).resets = s.resets := by simp [fillLoop]

end Sys2Proof.Machine
end

