-- ==== Sys2Proof/Laws/Step.lean ====
section
/-! SUPPORT. What a step can do, said once: the kinds of work, the effects a command can have, and the turns of a FILL. -/

namespace Sys2Proof.Machine

/-! ### The kinds of work -/

theorem nextWork_reset {s : State} (h : s.rst = true) : nextWork s = .resetEdge := by
  simp [nextWork, h]

theorem nextWork_resume {s : State} (h : s.rst = false) (hf : s.fillRemaining ≠ 0) : nextWork s = .resume := by
  rw [nextWork, h, if_neg (by simp), if_pos hf]

theorem nextWork_idle {s : State} (h : s.rst = false) (hf : s.fillRemaining = 0) (hc : s.cmdPort = []) :
    nextWork s = .idle := by
  simp [nextWork, h, hf, hc]

theorem nextWork_command {s : State} {t : Transfer} {l : List Transfer} (h : s.rst = false)
    (hf : s.fillRemaining = 0) (hc : s.cmdPort = t :: l) : nextWork s = .command t l := by
  simp [nextWork, h, hf, hc]

/-- The four kinds of step, with what each one's next state is. -/
theorem step_cases {s s' : State} (h : step s = .next s') :
    (s.rst = true ∧ s' = resetEdge s) ∨
    (s.rst = false ∧ s.fillRemaining ≠ 0 ∧ s' = fillLoop s) ∨
    (s.rst = false ∧ s.fillRemaining = 0 ∧ s.cmdPort = [] ∧ s' = s) ∨
    (s.rst = false ∧ s.fillRemaining = 0 ∧ ∃ t l, s.cmdPort = t :: l ∧
      ((∃ i, decode t.word = .ok i ∧ exec i (accept t l s) = .next s') ∨
        (∃ e, decode t.word = .error e) ∧ s' = reject .illegalCmd (accept t l s))) := by
  cases hr : s.rst with
  | true =>
    rw [step, nextWork_reset hr] at h
    cases h
    exact .inl ⟨rfl, rfl⟩
  | false =>
    by_cases hf : s.fillRemaining = 0
    · cases hc : s.cmdPort with
      | nil =>
        rw [step, nextWork_idle hr hf hc] at h
        cases h
        exact .inr (.inr (.inl ⟨rfl, hf, rfl, rfl⟩))
      | cons t l =>
        rw [step, nextWork_command hr hf hc] at h
        refine .inr (.inr (.inr ⟨rfl, hf, t, l, rfl, ?_⟩))
        dsimp only at h
        split at h
        · exact .inl ⟨_, ‹_›, h⟩
        · cases h
          exact .inr ⟨⟨_, ‹_›⟩, rfl⟩
    · rw [step, nextWork_resume hr hf] at h
      cases h
      exact .inr (.inl ⟨rfl, hf, rfl⟩)

/-! ### The effects of the commands -/

/-- What WR writes when it is not rejected (R102). -/
theorem writeReg_ok {s s' : State} {data : Word} {r : Option RegName} (h : writeReg s data r = .ok s') :
    s' = { s with symbolStep := data } ∨ s' = { s with shift1 := data } ∨ s' = { s with shift2 := data } ∨
      s' = { s with swapOnStart := data.getLsbD 0 } := by
  unfold writeReg at h
  split at h
  · cases h; exact .inl rfl
  · cases h; exact .inr (.inl rfl)
  · cases h; exact .inr (.inr (.inl rfl))
  · split at h
    · cases h
    · cases h; exact .inr (.inr (.inr rfl))
  · cases h

/-- INIT's checks pass exactly for 1 to 16 frequencies and 162 symbols (R106). -/
theorem initCheck_none {s : State} :
    initCheck s = none ↔ 1 ≤ s.freqCount.toNat ∧ s.freqCount.toNat ≤ 16 ∧ s.symCount.toNat = 162 := by
  unfold initCheck Config.maxf Config.nsym
  split_ifs <;> simp <;> omega

/-- Every effect a command can have: a rejection, a bare answer, a configuration write, a push, a construction, a FILL. -/
theorem exec_cases {i : Instr} {s s' : State} (h : exec i s = .next s') :
    (∃ e, s' = reject e s) ∨
    ((i = .nop ∨ ∃ reg, i = .rd reg) ∧ ∃ v, s' = respond v s) ∨
    (s.ready = false ∧ ∃ reg data, i = .wr reg data ∧
      (s' = respond 0 { s with symbolStep := data } ∨ s' = respond 0 { s with shift1 := data } ∨
        s' = respond 0 { s with shift2 := data } ∨ s' = respond 0 { s with swapOnStart := data.getLsbD 0 })) ∨
    (s.ready = false ∧ ∃ data, i = .pushf data ∧
      s' = respond 0 { ftabWrite s.freqCount.toNat data s with freqCount := countFreq s.freqCount }) ∨
    (s.ready = false ∧ ∃ data v, i = .pushs data ∧ symbolOperand data = some v ∧
      s' = respond 0 { stabWrite s.symCount.toNat v s with symCount := countSym s.symCount }) ∨
    (s.ready = false ∧ i = .init ∧ initCheck s = none ∧ s' = respond 0 (initialise s)) ∨
    (s.ready = true ∧ ∃ count, i = .fill count ∧ s' = fillLoop (fillArm count s)) := by
  cases i with
  | nop =>
    cases h
    exact .inr (.inl ⟨.inl rfl, 0, rfl⟩)
  | wr reg data =>
    simp only [exec, execWr] at h
    split at h
    · cases h; exact .inl ⟨_, rfl⟩
    · split at h
      · rename_i hr _ t ht
        cases h
        refine .inr (.inr (.inl ⟨by simpa using hr, reg, data, rfl, ?_⟩))
        rcases writeReg_ok ht with rfl | rfl | rfl | rfl
        · exact .inl rfl
        · exact .inr (.inl rfl)
        · exact .inr (.inr (.inl rfl))
        · exact .inr (.inr (.inr rfl))
      · cases h; exact .inl ⟨_, rfl⟩
  | rd reg =>
    simp only [exec, execRd] at h
    split at h
    · cases h; exact .inr (.inl ⟨.inr ⟨reg, rfl⟩, _, rfl⟩)
    · cases h; exact .inl ⟨_, rfl⟩
  | pushf data =>
    simp only [exec, execPushf] at h
    split at h
    · cases h; exact .inl ⟨_, rfl⟩
    · rename_i hr
      cases h
      exact .inr (.inr (.inr (.inl ⟨by simpa using hr, data, rfl, rfl⟩)))
  | pushs data =>
    simp only [exec, execPushs] at h
    split at h
    · cases h; exact .inl ⟨_, rfl⟩
    · rename_i hr
      split at h
      · cases h; exact .inl ⟨_, rfl⟩
      · cases h
        exact .inr (.inr (.inr (.inr (.inl ⟨by simpa using hr, data, _, rfl, ‹_›, rfl⟩))))
  | init =>
    simp only [exec, execInit] at h
    split at h
    · cases h; exact .inl ⟨_, rfl⟩
    · rename_i hr
      split at h
      · cases h; exact .inl ⟨_, rfl⟩
      · cases h
        exact .inr (.inr (.inr (.inr (.inr (.inl ⟨by simpa using hr, rfl, ‹_›, rfl⟩)))))
  | fill count =>
    simp only [exec, execFill] at h
    split at h
    · rename_i hr
      cases h
      exact .inr (.inr (.inr (.inr (.inr (.inr ⟨hr, count, rfl, rfl⟩)))))
    · cases h; exact .inl ⟨_, rfl⟩

/-! ### The turns of a FILL -/

theorem outReady_none {s : State} (h : s.hostTakes = none) : outReady s = true := by
  simp [outReady, h]

@[simp] theorem sample_hostTakes (s : State) : (sample s).hostTakes = s.hostTakes.map (· - 1) := by
  unfold sample; split <;> simp

@[simp] theorem fillTurn_hostTakes (s : State) : (fillTurn s).hostTakes = s.hostTakes.map (· - 1) := sample_hostTakes s

@[simp] theorem fillTurn_fillRemaining (s : State) : (fillTurn s).fillRemaining = s.fillRemaining - 1 :=
  congrArg (· - 1) (sample_fillRemaining s)

/-- While the host takes every beat, every turn runs (R44). -/
theorem fillTurns_of_none (n : Nat) : ∀ s : State, s.hostTakes = none → fillTurns n s = fillTurn^[n] s := by
  induction n with
  | zero => exact fun s _ => rfl
  | succ n ih =>
    intro s h
    rw [fillTurns, if_pos (outReady_none h), ih _ (by simp [h]), Function.iterate_succ_apply]

/-- While the host takes at least one more beat, one turn runs (R44). -/
theorem fillTurns_of_ready (n : Nat) {s : State} (h : outReady s = true) :
    fillTurns (n + 1) s = fillTurns n (fillTurn s) := by
  rw [fillTurns, if_pos h]

/-- When the host takes no beat, no turn runs (R44). -/
theorem fillTurns_of_held (n : Nat) {s : State} (h : s.hostTakes = some 0) : fillTurns n s = s := by
  cases n with
  | zero => rfl
  | succ n => simp [fillTurns, outReady, h]

theorem fillTurn_iterate_fillRemaining (n : Nat) (s : State) :
    (fillTurn^[n] s).fillRemaining = s.fillRemaining - BitVec.ofNat 32 n := by
  induction n with
  | zero => simp
  | succ n ih =>
    rw [Function.iterate_succ_apply', fillTurn_fillRemaining, ih]
    rw [BitVec.ofNat_add, BitVec.sub_sub]
    rfl

/-- A property that every turn keeps is kept by the loop's turns, however many the host lets run. -/
theorem fillTurns_induction {P : State → Prop} (hP : ∀ s, P s → P (fillTurn s)) (n : Nat) :
    ∀ s, P s → P (fillTurns n s) := by
  induction n with
  | zero => exact fun s h => h
  | succ n ih =>
    intro s h
    unfold fillTurns
    split
    · exact ih _ (hP s h)
    · exact h

end Sys2Proof.Machine
end

