-- ==== Sys2Proof/Laws/Fill.lean ====
section
/-! SUPPORT. A FILL in pieces: its arming, one turn of its loop idle and transmitting, and its loop under each kind of host. -/

namespace Sys2Proof.Machine

/-! ### One sample -/

/-- R141 with the factors in the rule's order. -/
theorem ditherNext_eq (lcg : Word) : ditherNext lcg = lcg * Config.lcgC + Config.lcgInc := by
  rw [ditherNext, BitVec.mul_comm]

theorem idleBeat_eq (s : State) : idleBeat s = ⟨128, 128, 128, s.fillRemaining == 1⟩ := rfl

/-- A SAMPLE that finds `active` 0 (R131, R152). -/
theorem sample_idle {s : State} (h : s.active = false) : sample s = emit (idleBeat s) (ditherStep s) := by
  rw [sample, if_neg (by simp [h])]

/-- A SAMPLE that finds `active` 1 (R140). -/
theorem sample_transmitting {s : State} (h : s.active = true) :
    sample s = advance (emit (signalBeat (ditherNext s.lcg) s) (ditherStep s)) := by
  rw [sample, if_pos h]

/-- One turn of the loop while idle, field by field. -/
theorem fillTurn_idle {s : State} (h : s.active = false) : fillTurn s = { s with
    lcg := ditherNext s.lcg
    fillRemaining := s.fillRemaining - 1
    hostTakes := s.hostTakes.map (· - 1)
    beats := s.beats ++ [idleBeat s] } := by
  rw [fillTurn, sample_idle h]
  rfl

/-- Every turn emits one beat, whose `out_last` is the countdown's (R44, R55). -/
theorem fillTurn_beats (s : State) : ∃ b : Beat, (fillTurn s).beats = s.beats ++ [b] ∧ b.last = outLast s := by
  show ∃ b : Beat, (sample s).beats = s.beats ++ [b] ∧ b.last = outLast s
  cases h : s.active with
  | true => exact ⟨_, by rw [sample_transmitting h, advance_beats, emit_beats, ditherStep_beats], rfl⟩
  | false => exact ⟨_, by rw [sample_idle h, emit_beats, ditherStep_beats], rfl⟩

/-! ### The symbol clock -/

/-- The wrap of R128 is the carry out of the 64-bit addition. -/
theorem symbolWraps_iff (s : State) :
    symbolWraps s = true ↔ 2 ^ 64 ≤ s.symbolPhase.toNat + s.symbolStep.toNat := by
  have h1 := s.symbolPhase.isLt
  have h2 := s.symbolStep.isLt
  simp only [symbolWraps, BitVec.ult, decide_eq_true_eq, BitVec.toNat_add]
  omega

/-- ADVANCE without a wrap (R126 to R128). -/
theorem advance_of_no_wrap {s : State} (h : ¬ symbolWraps s = true) : advance s = accumulate s := by
  rw [advance, if_neg h]

/-- ADVANCE with a wrap into the next symbol (R129). -/
theorem advance_of_tone {s : State} (h : symbolWraps s = true) (hi : (s.symbolIndex + 1).toNat < 162) :
    advance s = toneUpdate { accumulate s with symbolIndex := s.symbolIndex + 1 } := by
  rw [advance, if_pos h]
  exact if_pos hi

/-- ADVANCE with a wrap that ends the frame (R130). -/
theorem advance_of_end {s : State} (h : symbolWraps s = true) (hi : ¬ (s.symbolIndex + 1).toNat < 162) :
    advance s = endFrame { accumulate s with symbolIndex := s.symbolIndex + 1 } := by
  rw [advance, if_pos h]
  exact if_neg hi

/-- Everything one turn of the loop can do to the scheduler: nothing while idle; while transmitting, no symbol boundary, the
next tone, or the end of the frame (R125 to R131). -/
theorem fillTurn_cases (s : State) :
    (s.active = false ∧ ∃ l f h b, fillTurn s =
      { s with lcg := l, fillRemaining := f, hostTakes := h, beats := b }) ∨
    (s.active = true ∧ ∃ l f h b p q,
      (fillTurn s =
        { s with lcg := l, fillRemaining := f, hostTakes := h, beats := b, phase := p, symbolPhase := q } ∨
      ((s.symbolIndex + 1).toNat < 162 ∧ fillTurn s =
        { s with
          lcg := l, fillRemaining := f, hostTakes := h, beats := b, phase := p, symbolPhase := q
          symbolIndex := s.symbolIndex + 1
          freq := toneWord s.baseFreq s.symbolStep (stabRead s (s.symbolIndex + 1).toNat) }) ∨
      (162 ≤ (s.symbolIndex + 1).toNat ∧ fillTurn s =
        { s with
          lcg := l, fillRemaining := f, hostTakes := h, beats := b, phase := p, symbolPhase := q
          symbolIndex := s.symbolIndex + 1
          active := false }))) := by
  cases ha : s.active with
  | false => exact .inl ⟨rfl, _, _, _, _, by rw [fillTurn_idle ha, ← ha]⟩
  | true =>
    refine .inr ⟨rfl, ditherNext s.lcg, s.fillRemaining - 1, s.hostTakes.map (· - 1),
      s.beats ++ [signalBeat (ditherNext s.lcg) s], s.phase + s.freq, s.symbolPhase + s.symbolStep, ?_⟩
    rw [fillTurn, sample_transmitting ha]
    generalize signalBeat (ditherNext s.lcg) s = b
    by_cases hw : symbolWraps (emit b (ditherStep s)) = true
    · by_cases hi : (s.symbolIndex + 1).toNat < 162
      · refine .inr (.inl ⟨hi, ?_⟩)
        rw [advance_of_tone hw hi, ← ha]
        rfl
      · refine .inr (.inr ⟨by omega, ?_⟩)
        rw [advance_of_end hw hi]
        rfl
    · left
      rw [advance_of_no_wrap hw, ← ha]
      rfl

/-! ### Arming the loop -/

theorem exec_fill_ready {s : State} (h : s.ready = true) (count : BitVec 32) :
    exec (.fill count) s = .next (fillLoop (fillArm count s)) := by
  simp only [exec, execFill, h, if_true]

theorem fillArm_eq (count : BitVec 32) (s : State) : fillArm count s = { schedule s with fillRemaining := count } := rfl

@[simp] theorem fillArm_fillRemaining (count : BitVec 32) (s : State) : (fillArm count s).fillRemaining = count := rfl

@[simp] theorem fillArm_hostTakes (count : BitVec 32) (s : State) : (fillArm count s).hostTakes = s.hostTakes :=
  schedule_hostTakes s

theorem schedule_of_start {s : State} (ha : s.active = false) (hw : s.wallSec.toNat % 120 = 1) :
    schedule s = startFrame s := by
  simp [schedule, startCondition, ha, hw, Config.period, Config.phaseSec]

theorem schedule_of_active {s : State} (ha : s.active = true) : schedule s = s := by
  simp [schedule, startCondition, ha]

theorem schedule_of_other_second {s : State} (hw : s.wallSec.toNat % 120 ≠ 1) : schedule s = s := by
  simp [schedule, startCondition, hw, Config.period, Config.phaseSec]

/-! ### The loop -/

/-- A loop whose beats are all taken runs every turn and responds (R120, R44). -/
theorem fillLoop_of_none {s : State} (h : s.hostTakes = none) :
    fillLoop s = respond 0 (fillTurn^[s.fillRemaining.toNat] s) := by
  rw [fillLoop, fillTurns_of_none _ _ h, fillRespond, if_pos]
  rw [fillTurn_iterate_fillRemaining]
  simp

/-- A host that takes `k` more beats lets `k` turns run (R44, R199). -/
theorem fillTurns_of_some (k : Nat) : ∀ (n : Nat) (s : State), s.hostTakes = some k →
    fillTurns n s = fillTurn^[min k n] s := by
  induction k with
  | zero =>
    intro n s h
    rw [fillTurns_of_held n h, Nat.zero_min]
    rfl
  | succ k ih =>
    intro n s h
    cases n with
    | zero => rfl
    | succ n =>
      rw [fillTurns_of_ready _ (by simp [outReady, h]), ih n _ (by simp [h]), Nat.add_min_add_right,
        Function.iterate_succ_apply]

theorem fillTurn_iterate_hostTakes_some (n : Nat) {k : Nat} {s : State} (h : s.hostTakes = some k) :
    (fillTurn^[n] s).hostTakes = some (k - n) := by
  induction n with
  | zero => simpa using h
  | succ n ih =>
    rw [Function.iterate_succ_apply', fillTurn_hostTakes, ih]
    simp
    omega

theorem fillTurn_iterate_hostTakes_none (n : Nat) {s : State} (h : s.hostTakes = none) :
    (fillTurn^[n] s).hostTakes = none := by
  induction n with
  | zero => exact h
  | succ n ih => rw [Function.iterate_succ_apply', fillTurn_hostTakes, ih, Option.map_none]

theorem fillTurn_iterate_responses (n : Nat) (s : State) : (fillTurn^[n] s).responses = s.responses := by
  induction n with
  | zero => rfl
  | succ n ih => rw [Function.iterate_succ_apply', fillTurn_responses, ih]

theorem fillTurn_iterate_rst (n : Nat) (s : State) : (fillTurn^[n] s).rst = s.rst := by
  induction n with
  | zero => rfl
  | succ n ih => rw [Function.iterate_succ_apply', fillTurn_rst, ih]

/-- A property that every turn keeps, and that the response keeps, is kept by the whole loop. -/
theorem fillLoop_induction {P : State → Prop} (hP : ∀ s, P s → P (fillTurn s)) (hR : ∀ s, P s → P (respond 0 s)) {s : State}
    (h : P s) : P (fillLoop s) := by
  have ht := fillTurns_induction hP s.fillRemaining.toNat s h
  unfold fillLoop fillRespond
  split
  · exact hR _ ht
  · exact ht

end Sys2Proof.Machine
end

