-- ==== Sys2Proof/Laws/PerInstr.lean ====
section
/-! SUPPORT. The per-instruction family EncodedRow: a command's fields obey the legality table of R85 to R91, and its word has
the row's match bits at the row's mask (R83). -/

namespace Sys2Proof.Laws.EncodedRow

/-- The encoded command is legal, and selects its own row. -/
abbrev Statement (i : Instr) : Prop :=
  (fieldsOfInstr i).wellFormed = true ∧ encode i &&& rowMask i = rowMatch i

theorem append4_and {a b c d n : Nat} (h : a + b + c + d = n) (x1 y1 : BitVec a) (x2 y2 : BitVec b) (x3 y3 : BitVec c)
    (x4 y4 : BitVec d) :
    (x1 ++ x2 ++ x3 ++ x4).cast h &&& (y1 ++ y2 ++ y3 ++ y4).cast h =
      ((x1 &&& y1) ++ (x2 &&& y2) ++ (x3 &&& y3) ++ (x4 &&& y4)).cast h := by
  subst h
  simp [BitVec.and_append]

/-- Masking an assembled word masks each field. -/
theorem wordOf_and (f g : Fields) :
    wordOf f &&& wordOf g = wordOf ⟨f.op &&& g.op, f.rsv &&& g.rsv, f.reg &&& g.reg, f.data &&& g.data⟩ :=
  append4_and _ _ _ _ _ _ _ _ _

/-- A row's mask and match as fields give the masked word. -/
theorem row_of_fields {i : Instr} {m r : Fields} (hm : rowMask i = wordOf m) (hr : rowMatch i = wordOf r)
    (h : (⟨(fieldsOfInstr i).op &&& m.op, (fieldsOfInstr i).rsv &&& m.rsv, (fieldsOfInstr i).reg &&& m.reg,
      (fieldsOfInstr i).data &&& m.data⟩ : Fields) = r) : encode i &&& rowMask i = rowMatch i := by
  rw [hm, hr, encode, wordOf_and, h]

theorem nop : Statement .nop := by decide

theorem wr (reg : BitVec 8) (data : Word) : Statement (.wr reg data) := by
  refine ⟨by simp [fieldsOfInstr, Fields.wellFormed], ?_⟩
  exact row_of_fields (m := ⟨15, 15, 0, 0⟩) (r := ⟨1, 0, 0, 0⟩) (by simp only [rowMask]; decide) (by simp only [rowMatch]; decide)
    (by simp [fieldsOfInstr])

theorem rd (reg : BitVec 8) : Statement (.rd reg) := by
  refine ⟨by simp [fieldsOfInstr, Fields.wellFormed], ?_⟩
  exact row_of_fields (m := ⟨15, 15, 0, BitVec.allOnes 64⟩) (r := ⟨2, 0, 0, 0⟩) (by simp only [rowMask]; decide)
    (by simp only [rowMatch]; decide) (by simp [fieldsOfInstr])

theorem pushf (data : Word) : Statement (.pushf data) := by
  refine ⟨by simp [fieldsOfInstr, Fields.wellFormed], ?_⟩
  exact row_of_fields (m := ⟨15, 15, 255, 0⟩) (r := ⟨3, 0, 0, 0⟩) (by simp only [rowMask]; decide)
    (by simp only [rowMatch]; decide) (by simp [fieldsOfInstr])

theorem pushs (data : Word) : Statement (.pushs data) := by
  refine ⟨by simp [fieldsOfInstr, Fields.wellFormed], ?_⟩
  exact row_of_fields (m := ⟨15, 15, 255, 0⟩) (r := ⟨4, 0, 0, 0⟩) (by simp only [rowMask]; decide)
    (by simp only [rowMatch]; decide) (by simp [fieldsOfInstr])

theorem init : Statement .init := by decide

/-- A FILL's operand leaves the high half of `data` zero. -/
theorem count_high (count : BitVec 32) : (count.setWidth 64).extractLsb' 32 32 = 0 := by
  apply BitVec.eq_of_toNat_eq
  have := count.isLt
  simp [BitVec.extractLsb'_toNat, Nat.shiftRight_eq_div_pow]
  omega

theorem count_masked (count : BitVec 32) : count.setWidth 64 &&& 0xFFFFFFFF00000000#64 = 0 := by
  apply BitVec.eq_of_getLsbD_eq
  intro k hk
  by_cases h : k < 32
  · have : (0xFFFFFFFF00000000#64).getLsbD k = false := by
      revert h; revert k; decide
    simp [this]
  · simp [BitVec.getLsbD_of_ge count k (by omega)]

theorem fill (count : BitVec 32) : Statement (.fill count) := by
  refine ⟨by simp [fieldsOfInstr, Fields.wellFormed, count_high], ?_⟩
  exact row_of_fields (m := ⟨15, 15, 255, 0xFFFFFFFF00000000⟩) (r := ⟨6, 0, 0, 0⟩) (by simp only [rowMask]; decide)
    (by simp only [rowMatch]; decide) (by simp [fieldsOfInstr, count_masked])

end Sys2Proof.Laws.EncodedRow
end

