-- ==== Sys2Proof/Laws/Registers.lean ====
section
/-! SUPPORT. The register map (R40): addresses and names are inverse to each other; WR, RD and PUSHS as one equation each. -/

namespace Sys2Proof.Machine

/-- The address that names a register is that register's address. -/
theorem regAddr_of_regAt {a : BitVec 8} {r : RegName} (h : regAt a = some r) : regAddr r = a := by
  unfold regAt at h
  split at h
  · cases h; simp [regAddr]
  · split at h
    · cases h
      apply BitVec.eq_of_toNat_eq
      have := a.isLt
      simp [regAddr]
      omega
    · unfold namedReg at h
      split at h
      all_goals first
        | (cases h; done)
        | (cases h; apply BitVec.eq_of_toNat_eq; simpa [regAddr] using (by assumption : a.toNat = _).symm)

/-- Every register is reached at its address. -/
theorem regAt_regAddr (r : RegName) : regAt (regAddr r) = some r := by
  cases r with
  | ftab k =>
    have : k.val % 256 = k.val := by omega
    simp [regAt, regAddr, this]
  | stab k =>
    have : (0x40 + k.val) % 256 = 0x40 + k.val := by omega
    simp [regAt, regAddr, this]
    omega
  | _ => decide

/-- WR out of the lock (R102). -/
theorem exec_wr_unlocked {s : State} (h : s.ready = false) (reg : BitVec 8) (data : Word) :
    exec (.wr reg data) s =
      (writeReg s data (regAt reg)).casesOn (fun e => .next (reject e s)) (fun s' => .next (respond 0 s')) := by
  simp only [exec, execWr, h]
  cases writeReg s data (regAt reg) <;> rfl

/-- A WR in READY is locked out (R102). -/
theorem exec_wr_locked {s : State} (h : s.ready = true) (reg : BitVec 8) (data : Word) :
    exec (.wr reg data) s = .next (reject .locked s) := by
  simp [exec, execWr, h]

/-- RD answers the register's value, or rejects (R103). -/
theorem exec_rd (s : State) (reg : BitVec 8) :
    exec (.rd reg) s = .next (((regAt reg).bind (readReg s)).elim (reject .badAddr s) (respond · s)) := by
  simp only [exec, execRd]
  cases (regAt reg).bind (readReg s) <;> rfl

/-- RD at a register's own address. -/
theorem exec_rd_at (s : State) (r : RegName) :
    exec (.rd (regAddr r)) s = .next ((readReg s r).elim (reject .badAddr s) (respond · s)) := by
  rw [exec_rd, regAt_regAddr]
  rfl

/-- The reserved bits of CTRL are clear exactly in the data words 0 and 1 (R42). -/
theorem ctrlReserved_eq_zero (data : Word) : ctrlReserved data = 0 ↔ data.toNat < 2 := by
  rw [← BitVec.toNat_inj]
  have := data.isLt
  simp [ctrlReserved, BitVec.extractLsb'_toNat, Nat.shiftRight_eq_div_pow]
  omega

end Sys2Proof.Machine
end

