-- ==== Sys2Proof/Tests/Slice0.lean ====
section
/-! SUPPORT. Tests, each with the place of spec/ its expected result comes from, and for every statement that has hypotheses a
concrete case that meets them all. -/

namespace Sys2Proof.Tests

open Sys2Proof Sys2Proof.Machine

/-! ### Small states -/

/-- The test pattern of 95_test_vectors.md section 1. -/
def pattern : Vector Sym 162 := Vector.ofFn fun k => [3, 1, 0, 2].getD (k.val % 4) 0

/-- Program P2 after its command 170: READY and idle, two frequencies, swap on. -/
def p2 : State := { State.reset with
  symbolStep := 0x8000000000000000
  shift1 := 0x4000000000000000
  shift2 := 0x8000000000000000
  swapOnStart := true
  ftab := ((Vector.replicate 16 0).set 0 0x0100000000000000).set 1 0x0200000000000000
  freqCount := 2
  stab := pattern
  symCount := 162
  ready := true
  lcg := 0x5851F42D4C957F2E }

/-- A READY, idle core at the last band of a full list. -/
def fullList : State := { p2 with freqCount := 16, bandIndex := 15 }

/-- A core that has just started a frame. -/
def started : State := { p2 with
  active := true, baseFreq := 0x0100000000000000, freq := 0x8100000000000000, bandIndex := 1 }

/-- A core one sample before the end of its frame (P2 before command 173). -/
def lastSample : State := { started with symbolIndex := 161, symbolPhase := 0x8000000000000000 }

/-- A state with one command presented. -/
def presented (w : Cmd) (now : Word) (s : State) : State := { s with cmdPort := [⟨w, now⟩] }

/-- What one outcome shows: a view of the next state. -/
def seen {α : Type} (view : State → α) (o : Host.Outcome State Fault Refusal) : Option α :=
  match o with
  | .next s => some (view s)
  | .fault _ => none
  | .refused _ => none

theorem next_of_seen {α : Type} {view : State → α} {o : Host.Outcome State Fault Refusal} {a : α} (h : seen view o = some a) :
    ∃ s', o = .next s' ∧ view s' = a := by
  cases o with
  | next s' => exact ⟨s', rfl, by simpa [seen] using h⟩
  | fault f => cases f
  | refused r => simp [seen] at h

/-- A response as the vectors write it. -/
def answers (s : State) : List (Nat × Nat) := s.responses.map fun r => (r.code.toNat, r.data.toNat)

/-- The beats as the vectors write them. -/
def codes (s : State) : List (Nat × Nat × Nat) := s.beats.map fun b => (b.ch0.toNat, b.ch1.toNat, b.ch2.toNat)

/-! ### Which words are legal: the checks of WellFormed refuse one ill-formed term each (R85 to R92) -/

theorem test_wellFormed_accepts : ∀ f ∈ ([⟨0, 0, 0, 0⟩, ⟨1, 0, 0xFF, 0xFFFFFFFFFFFFFFFF⟩, ⟨2, 0, 0xFF, 0⟩,
    ⟨3, 0, 0, 0xFFFFFFFFFFFFFFFF⟩, ⟨4, 0, 0, 9⟩, ⟨5, 0, 0, 0⟩, ⟨6, 0, 0, 0xFFFFFFFF⟩] : List Fields),
    f.wellFormed = true := by decide

theorem test_wellFormed_refuses_rsv : (⟨1, 1, 0x14, 5⟩ : Fields).wellFormed = false := by decide
theorem test_wellFormed_refuses_reserved_opcode : (⟨7, 0, 0, 0⟩ : Fields).wellFormed = false := by decide
theorem test_wellFormed_refuses_last_opcode : (⟨15, 0, 0, 0⟩ : Fields).wellFormed = false := by decide
theorem test_wellFormed_refuses_nop_reg : (⟨0, 0, 1, 0⟩ : Fields).wellFormed = false := by decide
theorem test_wellFormed_refuses_nop_data : (⟨0, 0, 0, 1⟩ : Fields).wellFormed = false := by decide
theorem test_wellFormed_refuses_rd_data : (⟨2, 0, 0x30, 1⟩ : Fields).wellFormed = false := by decide
theorem test_wellFormed_refuses_pushf_reg : (⟨3, 0, 1, 0⟩ : Fields).wellFormed = false := by decide
theorem test_wellFormed_refuses_pushs_reg : (⟨4, 0, 2, 9⟩ : Fields).wellFormed = false := by decide
theorem test_wellFormed_refuses_init_reg : (⟨5, 0, 1, 0⟩ : Fields).wellFormed = false := by decide
theorem test_wellFormed_refuses_init_data : (⟨5, 0, 0, 1⟩ : Fields).wellFormed = false := by decide
theorem test_wellFormed_refuses_fill_reg : (⟨6, 0, 1, 4⟩ : Fields).wellFormed = false := by decide
theorem test_wellFormed_refuses_fill_count : (⟨6, 0, 0, 0x100000000⟩ : Fields).wellFormed = false := by decide

/-! ### Words written out from the encodings: op, rsv, reg, data (30_encoding.md section 6, 95_test_vectors.md section 3) -/

theorem test_decode_nop : decode (0x0#4 ++ 0x0#4 ++ 0x00#8 ++ 0x0000000000000000#64) = .ok .nop := by decide
theorem test_decode_wr : decode (0x1#4 ++ 0x0#4 ++ 0x11#8 ++ 0x4000000000000000#64) = .ok (.wr 0x11 0x4000000000000000) := by decide
theorem test_decode_rd : decode (0x2#4 ++ 0x0#4 ++ 0xE1#8 ++ 0x0000000000000000#64) = .ok (.rd 0xE1) := by decide
theorem test_decode_pushf : decode (0x3#4 ++ 0x0#4 ++ 0x00#8 ++ 0x1205CCC89B0EE49F#64) = .ok (.pushf 0x1205CCC89B0EE49F) := by decide
theorem test_decode_pushs : decode (0x4#4 ++ 0x0#4 ++ 0x00#8 ++ 0x0000000000000009#64) = .ok (.pushs 9) := by decide
theorem test_decode_init : decode (0x5#4 ++ 0x0#4 ++ 0x00#8 ++ 0x0000000000000000#64) = .ok .init := by decide
theorem test_decode_fill : decode (0x6#4 ++ 0x0#4 ++ 0x00#8 ++ 0x000000000000013B#64) = .ok (.fill 315) := by decide

/-- V8 to V13. -/
theorem test_decode_illegal : ([0x60010000000000000004, 0x20300000000000000001, 0x00000000000000000001,
    0x40020000000000000009, 0x11100000000000000005, 0xF0000000000000000000] : List Cmd).map (fun w => (decode w).toOption) =
    List.replicate 6 none := by decide +kernel

/-- V7 as ten bytes. -/
theorem test_decode_bytes : decodeBytes [0x3B, 1, 0, 0, 0, 0, 0, 0, 0, 0x60] = .ok (.fill 315) := by decide +kernel

theorem test_encode_wr : encode (.wr 0x10 0x3EEA209AAA) = 0x10100000003EEA209AAA := by decide
theorem test_encode_fill : encode (.fill 4294967295) = 0x600000000000FFFFFFFF := by decide
theorem test_table_word : decodeTableWord 80 0x20E10000000000000000 = some (.rd 0xE1) := by decide

/-! ### The text form and the pseudo-commands (R95, R96; 30_encoding.md section 6) -/

theorem test_text_wr : readLine
    ['W', 'R', ' ', 'S', 'Y', 'M', 'B', 'O', 'L', '_', 'S', 'T', 'E', 'P', ',', ' ',
      '0', 'x', '3', 'E', 'E', 'A', '2', '0', '9', 'A', 'A', 'A', ' ', ';', ' ', 'r', 'a', 't', 'e'] =
    some (.command (.wr 0x10 0x3EEA209AAA) none) := by decide +kernel
theorem test_text_rd : readLine
    ['R', 'D', ' ', 'S', 'T', 'A', 'B', '[', '1', '6', '1', ']'] = some (.command (.rd 0xE1) none) := by decide +kernel
theorem test_text_fill : readLine
    ['F', 'I', 'L', 'L', ' ', '3', '1', '5', ' ', '@', ' ', '2'] = some (.command (.fill 315) (some 2)) := by decide +kernel
theorem test_text_number_too_wide : readLine
    ['F', 'I', 'L', 'L', ' ', '4', '2', '9', '4', '9', '6', '7', '2', '9', '6'] = none := by decide +kernel
theorem test_loadsyms : expand (.loadSyms ['3', ' ', '1', '0']) = some [.pushs 3, .pushs 1, .pushs 0] := by decide +kernel

/-! ### Reset (R46) and how a command comes to run -/

theorem test_reset_status : seen answers (exec (.rd 0x20) State.reset) = some [(0, 0)] := by decide

/-- P3, line 1: the first command after reset, placed by withFetchWord. -/
theorem test_first_command : seen answers (step (State.reset.withFetchWord 80 0x50000000000000000000)) = some [(6, 0)] := by
  decide

/-! ### The commands, two at most of each -/

/-- R101. -/
theorem test_nop : seen answers (exec .nop State.reset) = some [(0, 0)] := by decide

/-- R102's example. -/
theorem test_wr_shift1 : seen (fun s => (s.shift1, answers s)) (exec (.wr 0x11 0x4000000000000000) State.reset) =
    some (0x4000000000000000, [(0, 0)]) := by decide

/-- P3, line 176: locked wins over bad address. -/
theorem test_wr_locked_first : seen answers (exec (.wr 0x14 0) p2) = some [(2, 0)] := by decide

/-- R103's example: an entry nothing has written; then flag 4 in STATUS. -/
theorem test_rd_unwritten : seen (fun s => (answers s, statusWord s)) (exec (.rd 0x00) State.reset) =
    some ([(4, 0)], 0x0800) := by decide

/-- P1: RD STAB[161] answers the last symbol. -/
theorem test_rd_last_symbol : seen answers (exec (.rd 0xE1) p2) = some [(0, 1)] := by decide +kernel

/-- R104's example. -/
theorem test_pushf : seen (fun s => (s.ftab[0], s.freqCount)) (exec (.pushf 0x1205CCC89B0EE49F) State.reset) =
    some (0x1205CCC89B0EE49F, 1) := by decide

/-- P4: the counter stops at 31 and nothing is stored. -/
theorem test_pushf_saturates : seen (fun s => (s.ftab, s.freqCount)) (exec (.pushf 7) { State.reset with freqCount := 31 }) =
    some (State.reset.ftab, 31) := by decide +kernel

/-- R105's example. -/
theorem test_pushs : seen (fun s => (s.stab[0], s.symCount)) (exec (.pushs 3) State.reset) = some (3, 1) := by
  decide +kernel

/-- R105's example: a value above 3 is neither stored nor counted. -/
theorem test_pushs_bad_value : seen (fun s => (answers s, s.symCount)) (exec (.pushs 4) { State.reset with symCount := 1 }) =
    some ([(5, 0)], 1) := by decide

/-- R106's example. -/
theorem test_init : seen (fun s => (answers s, statusWord s)) (exec .init { State.reset with freqCount := 1, symCount := 162 }) =
    some ([(0, 0)], 1) := by decide

/-- V56: seventeen frequencies and no symbol. -/
theorem test_init_too_many : seen (fun s => (answers s, s.errflags)) (exec .init { State.reset with freqCount := 17 }) =
    some ([(7, 0)], 0x40) := by decide

/-- P2, command 171: the first frame starts; its eight beats. -/
theorem test_fill_starts : seen codes (exec (.fill 8) { p2 with wallSec := 1 }) =
    some [(128, 128, 255), (125, 131, 1), (134, 121, 255), (119, 137, 1), (140, 116, 254), (144, 112, 254), (146, 110, 253),
      (149, 106, 253)] := by decide +kernel

/-- P2, command 173: sample 324 ends the frame. -/
theorem test_fill_ends : seen (fun s => (codes s, s.active, [s.symbolIndex.toNat, s.symbolPhase.toNat, s.phase.toNat]))
    (exec (.fill 1) { lastSample with
      lcg := 0x5964648BBE43A2DD, phase := 0xC300000000000000, shift1 := 0x8000000000000000, shift2 := 0x4000000000000000
      wallSec := 2 }) =
    some ([(1, 255, 137)], false, [162, 0, 0x4400000000000000]) := by decide +kernel

/-! ### One sample (95_test_vectors.md sections 5 to 8) -/

/-- The start state of section 7's rows. -/
def row (lcg phase shift1 shift2 : Word) : State := { started with
  freq := 0, symbolStep := 1, lcg := lcg, phase := phase, shift1 := shift1, shift2 := shift2 }

/-- V30. -/
theorem test_sample_v30 : codes (sample (row 1 0 0x4000000000000000 0x8000000000000000)) = [(128, 255, 128)] := by decide +kernel

/-- V34: floor toward minus infinity. -/
theorem test_sample_v34 : codes (sample (row 0x8B54D67CB561D75B 0xFFC0000000000000 0 0)) = [(127, 128, 128)] := by decide +kernel

/-- V39c: the router's sums wrap. -/
theorem test_sample_v39c : codes (sample (row 0xDD90B578CD61D75B 0xFA00000000000000 0x1900000000000000 0xFFFFFFFFFFFFFFFF)) =
    [(109, 185, 108)] := by decide +kernel

/-- V28. -/
theorem test_dither_v28 : ditherNext 0xFFFFFFFFFFFFFFFF = 0xA7AE0BD2B36A80D4 := by decide

/-- The start condition's table: 2^32 + 1 does not start a frame, 2^64 - 15 does. -/
theorem test_start_condition : startCondition { p2 with wallSec := 0x100000001 } = false ∧
    startCondition { p2 with wallSec := 0xFFFFFFFFFFFFFFF1 } = true := by decide

/-- The wrap table: a sum of exactly 2^64 wraps, an old value 0 never does. -/
theorem test_wraps : symbolWraps { p2 with symbolPhase := 0x8000000000000000 } = true ∧
    symbolWraps { p2 with symbolPhase := 0, symbolStep := 0xFFFFFFFFFFFFFFFF } = false := by decide

/-- R72: the whole table's checks. -/
theorem test_rom_sums : (sineRows.map List.length) = List.replicate 64 16 ∧ sineRows.flatten.sum = 0 ∧
    (sineRows.flatten.map Int.natAbs).sum = 21194448 ∧ (sineRows.flatten.map fun v => v * v).sum = 541198431984 := by
  decide +kernel

/-- Section 6's spot values, as `s16` bits. -/
theorem test_rom_spots : [1, 128, 256, 341, 513, 682, 768, 1000, 1023].map sineRom =
    [0x00C7, 0x59CD, 0x7F00, 0x6E1D, 0xFF39, 0x9247, 0x8100, 0xED5D, 0xFF39] := by decide +kernel

/-! ### The host's conversions (95_test_vectors.md section 4) -/

/-- V15, V20, V22, V23. -/
theorem test_hz_to_freq : hzToFreq 100000000 7040100 = some 0x1205CCC89B0EE49F ∧
    hzToFreq 100000000 (-1) = some 0xFFFFFFD50CE23B9E ∧ hzToFreq 3 1 = some 0x5555555555555555 ∧
    hzToFreq (199999999 / 2) 14097100 = some 0x2416ACEDB634EEC3 := by decide +kernel

/-- V14, V24 to V26. -/
theorem test_rates_and_angles : hzToFreq 100000000 symbolRate = some 0x0000003EEA209AAA ∧ degToShift 120 = 0x5555555555555555 ∧
    degToShift (-90) = 0xC000000000000000 ∧ degToShift 360 = 0 ∧ degToShift (1 / 2) = 0x005B05B05B05B05B := by decide +kernel

/-! ### The host's lines -/

/-- R190: a reset edge in the middle of a FILL: no response, the beats stay taken. -/
theorem test_reset_edge : seen (fun s => (s.ready, [s.fillRemaining.toNat, s.responses.length], codes s))
    (step { started with rst := true, fillRemaining := 5, beats := [⟨1, 2, 3, false⟩] }) =
    some (false, [0, 0], [(1, 2, 3)]) := by decide +kernel

/-- R199: two of three beats taken, then the core waits with one sample to run and no response. -/
theorem test_stalled_fill : seen (fun s => (codes s, s.fillRemaining, answers s))
    (exec (.fill 3) { p2 with hostTakes := some 2 }) = some ([(128, 128, 128), (128, 128, 128)], 1, []) := by decide +kernel

/-! ### For each statement that has hypotheses, a case that meets them all -/

theorem fullList_inv : Machine.Inv fullList := by constructor <;> decide
theorem started_inv : Machine.Inv started := by constructor <;> decide
theorem lastSample_inv : Machine.Inv lastSample := by constructor <;> decide

theorem witness_EncodeAndDecodeAreInverse : decode 0x600000000000FFFFFFFF = .ok (.fill 0xFFFFFFFF) := by decide

theorem witness_BytesLeastSignificantFirst : (9 < 10 ∧ 0 < 10) ∧ ([] : List Byte).length ≠ 10 := by decide

theorem witness_StepRunsTheDecodedCommand :
    let s := presented 0x600000000000FFFFFFFF 1 p2
    s.rst = false ∧ s.fillRemaining = 0 ∧ s.cmdPort = ⟨0x600000000000FFFFFFFF, 1⟩ :: [] ∧
      decode 0x600000000000FFFFFFFF = .ok (.fill 0xFFFFFFFF) := by decide

/-- One word for each clause of R92, the line and lifecycle conditions as in `witness_StepRunsTheDecodedCommand`. -/
theorem witness_IllegalWordIsRejected :
    let s := presented 0x60000000000100000000 1 p2
    7 ≤ (fieldsOf 0x70000000000000000000).op.toNat ∧ (fieldsOf 0x11100000000000000005).rsv ≠ 0 ∧
    ((fieldsOf 0x00000000000000000001).op = 0 ∧ (fieldsOf 0x00000000000000000001).data ≠ 0) ∧
    ((fieldsOf 0x50010000000000000000).op = 5 ∧ (fieldsOf 0x50010000000000000000).reg ≠ 0) ∧
    ((fieldsOf 0x20300000000000000001).op = 2 ∧ (fieldsOf 0x20300000000000000001).data ≠ 0) ∧
    ((fieldsOf 0x40020000000000000009).op = 4 ∧ (fieldsOf 0x40020000000000000009).reg ≠ 0) ∧
    ((fieldsOf 0x60000000000100000000).op = 6 ∧ 2 ^ 32 ≤ (fieldsOf 0x60000000000100000000).data.toNat) ∧
    s.rst = false ∧ s.fillRemaining = 0 ∧ s.cmdPort = ⟨0x60000000000100000000, 1⟩ :: [] ∧
    ∀ i : Instr, decode 0x60000000000100000000 ≠ .ok i := by
  refine ⟨by decide, by decide, by decide, by decide, by decide, by decide, by decide, by decide, by decide, by decide, ?_⟩
  intro i h
  rw [show decode 0x60000000000100000000 = .error .countTooWide by decide] at h
  cases h

theorem witness_NopOnlyResponds : (fieldsOf 1).op = 0 ∧ (1 : Cmd) ≠ 0 := by decide

theorem witness_ResetEdgeClearsEveryVariable : ({ started with rst := true } : State).rst = true := by decide

theorem witness_CoreWaitsForTheHost :
    (p2.rst = false ∧ p2.fillRemaining = 0 ∧ p2.cmdPort = []) ∧
    (let s : State := { started with fillRemaining := 1, hostTakes := some 0 }
     s.rst = false ∧ s.fillRemaining ≠ 0 ∧ s.hostTakes = some 0) := by decide

/-- Both edges of the reserved bits of CTRL, and the largest word with none. -/
theorem witness_CtrlBitLayout : State.reset.ready = false ∧ (1 ≤ 1 ∧ (2 : Word).getLsbD 1 = true) ∧
    (1 ≤ 63 ∧ (0x8000000000000000 : Word).getLsbD 63 = true) ∧ ctrlReserved 1 = 0 := by decide

theorem witness_StatusBitLayout : ((3 ≤ 3 ∧ 3 ≤ 7) ∧ (3 ≤ 7 ∧ 7 ≤ 7) ∧ 16 ≤ 16) ∧ State.reset.ready = false := by decide

theorem witness_InitializeSequenceOutcome : ∀ v ∈ List.replicate 161 (3 : Word), v.toNat ≤ 3 := by
  intro v hv
  rw [List.eq_of_mem_replicate hv]
  decide

/-- The shortest and the longest list of frequencies. -/
theorem witness_InitializeSequenceLoads :
    (∀ v ∈ List.replicate 162 (3 : Word), v.toNat ≤ 3) ∧ (List.replicate 162 (3 : Word)).length = 162 ∧
    (1 ≤ (List.replicate 1 (7 : Word)).length ∧ (List.replicate 16 (7 : Word)).length ≤ 16) := by
  refine ⟨fun v hv => ?_, List.length_replicate, ?_⟩
  · rw [List.eq_of_mem_replicate hv]
    decide
  · rw [List.length_replicate, List.length_replicate]
    decide

theorem witness_FillBeforeInitIsRejected : State.reset.ready = false := by decide

theorem witness_StartRunsExactlyOnItsCondition :
    Machine.Inv fullList ∧ fullList.ready = true ∧ fullList.fillRemaining = 0 := ⟨fullList_inv, by decide⟩

theorem witness_FillRunsCountSamples : started.ready = true ∧ started.hostTakes = none := by decide

theorem witness_IdleFillEmitsMidScale :
    p2.ready = true ∧ p2.hostTakes = none ∧ p2.active = false ∧ p2.wallSec.toNat % 120 ≠ 1 := by decide

theorem witness_TransmittingSampleIsTheRules :
    lastSample.ready = true ∧ lastSample.active = true ∧ lastSample.hostTakes = none := by decide

theorem witness_FillEmitsExactlyCountBeats : p2.ready = true ∧ p2.hostTakes = none ∧ 0 < (1 : BitVec 32).toNat := by decide

/-- The host takes no beat, and all beats but the last. -/
theorem witness_StalledFillWaits :
    (let s : State := { p2 with hostTakes := some 0 }
     s.ready = true ∧ s.hostTakes = some 0 ∧ 0 < (1 : BitVec 32).toNat) ∧
    (let s : State := { started with hostTakes := some 8 }
     s.ready = true ∧ s.hostTakes = some 8 ∧ 8 < (9 : BitVec 32).toNat) := by decide

theorem witness_StallChangesNoValue : lastSample.ready = true ∧ lastSample.rst = false ∧ 2 < (3 : BitVec 32).toNat := by decide

theorem witness_FillFrame : started.ready = true ∧
    (∃ t, exec (.fill 1) started = .next t ∧ t.beats.length = 1) ∧
    started.active = true ∧ p2.wallSec.toNat % 120 ≠ 1 :=
  ⟨by decide, next_of_seen (by decide +kernel), by decide⟩

theorem witness_IdleFillMovesNoOscillator : p2.ready = true ∧ p2.active = false ∧ p2.wallSec.toNat % 120 ≠ 1 ∧
    ∃ t, exec (.fill 1) p2 = .next t ∧ t.beats.length = 1 :=
  ⟨by decide, by decide, by decide, next_of_seen (by decide +kernel)⟩

/-- The largest and the smallest nonzero step, V41 for the first. -/
theorem witness_FrameLastsExactlyItsLength :
    (let s : State := { started with symbolStep := 0xFFFFFFFFFFFFFFFF }
     s.active = true ∧ s.symbolIndex = 0 ∧ s.symbolPhase = 0 ∧ s.symbolStep ≠ 0 ∧
      (162 * 2 ^ 64 + s.symbolStep.toNat - 1) / s.symbolStep.toNat = 163) ∧
    ({ started with symbolStep := 1 } : State).symbolStep ≠ 0 := by decide

theorem witness_ZeroStepFrameNeverEnds :
    let s : State := { started with symbolStep := 0 }
    s.ready = true ∧ s.active = true ∧ s.symbolStep = 0 ∧ s.hostTakes = none := by decide

theorem witness_BandRotatesThroughTheList :
    (p2.bandIndex = 0 ∧ 1 ≤ p2.freqCount.toNat ∧ p2.freqCount.toNat ≤ 16) ∧
    (let s : State := { p2 with freqCount := 16 }
     s.bandIndex = 0 ∧ 1 ≤ s.freqCount.toNat ∧ s.freqCount.toNat ≤ 16) ∧
    (let s : State := { p2 with freqCount := 1 }
     s.bandIndex = 0 ∧ 1 ≤ s.freqCount.toNat ∧ s.freqCount.toNat ≤ 16) := by decide

theorem witness_ShiftsAlternateBetweenFrames : (p2.swapOnStart = true ∧ 0 % 2 = 0 ∧ 1 % 2 = 1) ∧
    State.reset.swapOnStart = false := by decide

theorem witness_QuantizerIsTheFloor :
    (-32512 ≤ (0x8100 : BitVec 16).toInt ∧ (0x8100 : BitVec 16).toInt ≤ 32512) ∧
    (-32512 ≤ (0x7F00 : BitVec 16).toInt ∧ (0x7F00 : BitVec 16).toInt ≤ 32512) := by decide

/-- V37's word and the word that differs from it in all of `r[23:0]`. -/
theorem witness_LowDitherBitsHaveNoEffect :
    (0x0000000000FFFFFF : Word).toNat / 2 ^ 24 = (0 : Word).toNat / 2 ^ 24 := by decide

theorem witness_SineRomIsTheNearestInteger : 1023 < 1024 := by decide

theorem witness_SineRomSymmetries : 511 < 512 ∧ 512 ≤ 512 ∧ 1023 < 1024 := by decide

theorem witness_EveryCommandGivesOneResponse :
    let s := presented 0x70000000000000000000 0 p2
    s.rst = false ∧ s.fillRemaining = 0 ∧ s.cmdPort = ⟨0x70000000000000000000, 0⟩ :: [] ∧ s.hostTakes = none := by decide

/-- P3, line 175: a WR in READY, rejected. -/
theorem witness_RejectionWritesOnlyItsFlag :
    let s := presented 0x10110000000000000001 0 p2
    s.rst = false ∧ s.fillRemaining = 0 ∧ s.cmdPort = ⟨0x10110000000000000001, 0⟩ :: [] ∧
      (∃ s', step s = .next s' ∧ s'.responses = s.responses ++ [⟨2, 0⟩]) ∧ (⟨2, 0⟩ : Response).code ≠ 0 :=
  ⟨by decide, by decide, by decide, next_of_seen (by decide +kernel), by decide⟩

/-- A state with flag 4 up answers OK to a NOP. -/
theorem witness_FlagsAreSticky :
    let s := presented 0 0 { State.reset with errflags := 0x08 }
    s.rst = false ∧ errFlag s.errflags .badAddr = true ∧
      ∃ s', step s = .next s' ∧ s'.responses.drop s.responses.length = [⟨0, 0⟩] :=
  ⟨by decide, by decide, next_of_seen (by decide +kernel)⟩

theorem witness_ConfigurationFixedWhileReady :
    let s := presented 0x10110000000000000001 0 p2
    s.rst = false ∧ s.ready = true ∧ ∃ s', step s = .next s' ∧ s'.responses.length = 1 :=
  ⟨by decide, by decide, next_of_seen (by decide +kernel)⟩

theorem witness_ReadyIsEnteredOnlyByInit :
    let s := presented 0x50000000000000000000 0 { State.reset with freqCount := 16, symCount := 162 }
    s.ready = false ∧ ∃ s', step s = .next s' ∧ s'.ready = true := ⟨by decide, next_of_seen (by decide +kernel)⟩

/-- P5, line 169: a FILL of no sample starts a frame. -/
theorem witness_ActiveRisesOnlyInStart :
    let s := presented 0x60000000000000000000 1 p2
    s.active = false ∧ ∃ s', step s = .next s' ∧ s'.active = true := ⟨by decide, next_of_seen (by decide +kernel)⟩

/-- The step that ends a frame and a step that does not. -/
theorem witness_ActiveFallsExactlyAt162 :
    (let s := presented 0x60000000000000000001 2 lastSample
     s.rst = false ∧ s.active = true ∧ seen (fun t => (t.active, t.symbolIndex)) (step s) = some (false, 162)) ∧
    (let s := presented 0x60000000000000000001 2 started
     s.rst = false ∧ s.active = true ∧ seen (fun t => (t.active, t.symbolIndex)) (step s) = some (true, 0)) := by
  decide +kernel

/-- A step that exchanges the shifts. -/
theorem witness_ShiftsAndIndexMoveOnlyInStart :
    let s := presented 0x60000000000000000000 1 p2
    s.rst = false ∧ s.ready = true ∧ s.shift1 ≠ 0x8000000000000000 ∧
      ∃ s', step s = .next s' ∧ s'.shift1 = 0x8000000000000000 :=
  ⟨by decide, by decide, by decide, next_of_seen (by decide +kernel)⟩

/-- Two states that differ in an entry not written: FTAB[15], with two frequencies pushed. -/
theorem witness_UnwrittenEntriesAreUnobservable :
    let t : State := { p2 with ftab := p2.ftab.set 15 7 }
    Machine.Inv p2 ∧ AgreeOnWritten p2 t ∧ p2.ftab ≠ t.ftab ∧ ∃ s', step p2 = .next s' ∧ s'.responses = [] :=
  ⟨by constructor <;> decide, ⟨by decide +kernel, fun _ _ _ => rfl, rfl⟩, by decide +kernel, next_of_seen (by decide +kernel)⟩

theorem witness_EveryStepKeepsTheRecordInvariant :
    let s := presented 0x60000000000000000001 2 lastSample
    Machine.Inv s ∧ ∃ s', step s = .next s' ∧ s'.symbolIndex = 162 :=
  ⟨by constructor <;> decide, next_of_seen (by decide +kernel)⟩

theorem witness_EveryStepKeepsTheToneInvariant :
    let s := presented 0x60000000000000000001 2 started
    Machine.Inv s ∧ ToneInv s ∧ s.active = true ∧ ∃ s', step s = .next s' ∧ s'.active = true :=
  ⟨by constructor <;> decide, fun _ => by decide +kernel, by decide, next_of_seen (by decide +kernel)⟩

theorem witness_FrequencyWordAccuracy : 0 < 1 := by decide

theorem witness_FrequencyWordOfARate : (0 : ℚ) < 1 / 2 := by norm_num

theorem witness_InitializeIsThePseudoCommands : ∀ d ∈ [0, 3, 9], d < 10 := by decide

end Sys2Proof.Tests
end

/-! ## Proofs of the state family: what each step can do -/

namespace Sys2Proof.Machine

/-! ### The scheduler's two outcomes and the idle loop -/

/-- An arming FILL starts a frame on an idle core in second 1 of a period, or only loads its counter (R120, R122). -/
theorem fillArm_cases (count : BitVec 32) (s : State) :
    (s.active = false ∧ s.wallSec.toNat % 120 = 1 ∧ fillArm count s = { startFrame s with fillRemaining := count }) ∨
    fillArm count s = { s with fillRemaining := count } := by
  rw [fillArm_eq]
  by_cases hw : s.wallSec.toNat % 120 = 1
  · by_cases ha : s.active = true
    · exact .inr (by rw [schedule_of_active ha])
    · have hidle : s.active = false := by simpa using ha
      exact .inl ⟨hidle, hw, by rw [schedule_of_start hidle hw]⟩
  · exact .inr (by rw [schedule_of_other_second hw])

@[simp] theorem fillArm_ready (count : BitVec 32) (s : State) : (fillArm count s).ready = s.ready := schedule_ready s

/-- Within the range of R30 the next `symbol_index` does not wrap. -/
theorem symbolIndex_succ {s : State} (h : s.symbolIndex.toNat ≤ 162) :
    (s.symbolIndex + 1).toNat = s.symbolIndex.toNat + 1 :=
  BitVec.toNat_add_of_lt (by simp; omega)

/-- The loop of an idle core moves neither `active` nor `symbol_index` (R131). -/
theorem fillLoop_keeps_idle {s : State} (hidle : s.active = false) :
    (fillLoop s).active = false ∧ (fillLoop s).symbolIndex = s.symbolIndex := by
  refine fillLoop_induction (P := fun t => t.active = false ∧ t.symbolIndex = s.symbolIndex) ?_ (fun _ h => h)
    ⟨hidle, rfl⟩
  rintro t ⟨hactive, hindex⟩
  rw [fillTurn_idle hactive]
  exact ⟨hactive, hindex⟩

theorem fillLoop_active_of_idle {s : State} (hidle : s.active = false) : (fillLoop s).active = false :=
  (fillLoop_keeps_idle hidle).1

theorem fillLoop_symbolIndex_of_idle {s : State} (hidle : s.active = false) :
    (fillLoop s).symbolIndex = s.symbolIndex :=
  (fillLoop_keeps_idle hidle).2

/-! ### The effects of a step -/

/-- What a step can do to the record, with the guards under which it does it. -/
inductive StepEffect (s : State) : State → Prop
  /-- The reset edge (R190). -/
  | reset (hrst : s.rst = true) : StepEffect s (resetEdge s)
  /-- Nothing, a rejection or a bare answer: only the host's lines, the flags and the responses move. -/
  | bookkeeping (hrst : s.rst = false) (port : List Transfer) (sec : Word) (flags : BitVec 8) (rsps : List Response) :
      StepEffect s { s with cmdPort := port, wallSec := sec, errflags := flags, responses := rsps }
  /-- WR, PUSHF or PUSHS before INIT: the configuration moves, the lifecycle and the symbol clock do not. -/
  | configured (hrst : s.rst = false) (hready : s.ready = false) {s' : State} (hready' : s'.ready = s.ready)
      (hactive : s'.active = s.active) (hindex : s'.symbolIndex = s.symbolIndex)
      (hfill : s'.fillRemaining = s.fillRemaining) : StepEffect s s'
  /-- An INIT whose checks pass (R106). -/
  | initialised (hrst : s.rst = false) (hready : s.ready = false) (hfree : s.fillRemaining = 0) (t : Transfer)
      (rest : List Transfer) (hport : s.cmdPort = t :: rest) (hdecode : decode t.word = .ok .init)
      (hcheck : initCheck s = none) : StepEffect s (respond 0 (initialise (accept t rest s)))
  /-- The rest of a FILL in progress (R199). -/
  | resumed (hrst : s.rst = false) (hfill : s.fillRemaining ≠ 0) : StepEffect s (fillLoop s)
  /-- A FILL accepted in READY (R120). -/
  | filled (hrst : s.rst = false) (hready : s.ready = true) (t : Transfer) (rest : List Transfer) (count : BitVec 32)
      (hport : s.cmdPort = t :: rest) (hdecode : decode t.word = .ok (.fill count)) :
      StepEffect s (fillLoop (fillArm count (accept t rest s)))

/-- Every step has one of the effects. -/
theorem stepEffect_of_step {s s' : State} (h : step s = .next s') : StepEffect s s' := by
  obtain ⟨hrst, rfl⟩ | ⟨hrst, hfill, rfl⟩ | ⟨hrst, -, -, rfl⟩ | ⟨hrst, hfree, t, rest, hport, hcmd⟩ := step_cases h
  · exact .reset hrst
  · exact .resumed hrst hfill
  · exact .bookkeeping hrst _ _ _ _
  obtain ⟨i, hdecode, hexec⟩ | ⟨-, rfl⟩ := hcmd
  swap
  · exact .bookkeeping hrst _ _ _ _
  obtain ⟨e, rfl⟩ | ⟨-, v, rfl⟩ | ⟨hready, _, _, -, hwrite⟩ | ⟨hready, _, -, rfl⟩ | ⟨hready, _, _, -, -, rfl⟩ |
    ⟨hready, rfl, hcheck, rfl⟩ | ⟨hready, count, rfl, rfl⟩ := exec_cases hexec
  · exact .bookkeeping hrst _ _ _ _
  · exact .bookkeeping hrst _ _ _ _
  · obtain rfl | rfl | rfl | rfl := hwrite <;> exact .configured hrst hready rfl rfl rfl rfl
  · exact .configured hrst hready rfl rfl rfl rfl
  · exact .configured hrst hready rfl rfl rfl rfl
  · exact .initialised hrst hready hfree t rest hport hdecode hcheck
  · exact .filled hrst hready t rest count hport hdecode

/-! ### The record invariant (R45) -/

/-- Before INIT the record invariant says that nothing is in progress. -/
theorem inv_of_unready {s : State} (hready : s.ready = false) (hactive : s.active = false)
    (hfill : s.fillRemaining = 0) (hindex : s.symbolIndex.toNat ≤ 162) : Inv s := by
  constructor <;> simp [hready, hactive, hfill, hindex]

theorem Inv.active_of_unready {s : State} (h : Inv s) (hready : s.ready = false) : s.active = false := by
  cases ha : s.active with
  | false => rfl
  | true => simpa [hready] using h.activeReady ha

theorem Inv.fillRemaining_of_unready {s : State} (h : Inv s) (hready : s.ready = false) : s.fillRemaining = 0 := by
  by_contra hf
  simpa [hready] using h.fillReady hf

/-- The invariant reads neither the host's lines, nor the flags, nor the responses. -/
theorem Inv.bookkeeping {s : State} (h : Inv s) (port : List Transfer) (sec : Word) (flags : BitVec 8)
    (rsps : List Response) : Inv { s with cmdPort := port, wallSec := sec, errflags := flags, responses := rsps } :=
  ⟨h.someFreq, h.freqFits, h.symComplete, h.bandInList, h.indexBounded, h.activeIndex, h.activeReady, h.fillReady⟩

theorem Inv.accept {s : State} (h : Inv s) (t : Transfer) (rest : List Transfer) : Inv (accept t rest s) :=
  h.bookkeeping _ _ _ _

/-- In READY the next band is one of the list (R123). -/
theorem nextBand_lt {s : State} (h : 1 ≤ s.freqCount.toNat) : (nextBand s).toNat < s.freqCount.toNat := by
  have hlt : (s.bandIndex.toNat + 1) % s.freqCount.toNat < s.freqCount.toNat := Nat.mod_lt _ h
  have hwidth := s.freqCount.isLt
  rw [nextBand, if_neg (by omega), BitVec.toNat_ofNat, Nat.mod_eq_of_lt (by omega)]
  exact hlt

/-- START keeps the invariant (R123). -/
theorem Inv.startFrame {s : State} (h : Inv s) (hready : s.ready = true) : Inv (startFrame s) where
  someFreq := h.someFreq
  freqFits := h.freqFits
  symComplete := h.symComplete
  bandInList _ := nextBand_lt (h.someFreq hready)
  indexBounded := by simp
  activeIndex _ := by simp
  activeReady _ := hready
  fillReady := h.fillReady

/-- In READY the invariant holds for every value of the loop counter. -/
theorem Inv.fillRemaining {s : State} (h : Inv s) (hready : s.ready = true) (count : BitVec 32) :
    Inv { s with fillRemaining := count } :=
  ⟨h.someFreq, h.freqFits, h.symComplete, h.bandInList, h.indexBounded, h.activeIndex, h.activeReady, fun _ => hready⟩

theorem Inv.fillArm {s : State} (h : Inv s) (hready : s.ready = true) (count : BitVec 32) : Inv (fillArm count s) := by
  obtain ⟨-, -, hs⟩ | hs := fillArm_cases count s <;> rw [hs]
  · exact (h.startFrame hready).fillRemaining hready count
  · exact h.fillRemaining hready count

/-- One turn of the loop keeps the invariant: `symbol_index` grows by at most one, from at most 161 (R128 to R130). -/
theorem Inv.fillTurn {s : State} (h : Inv s) (hready : s.ready = true) : Inv (fillTurn s) := by
  obtain ⟨-, _, _, _, _, hs⟩ | ⟨hactive, _, _, _, _, _, _, hs⟩ := fillTurn_cases s
  · rw [hs]
    exact ⟨h.someFreq, h.freqFits, h.symComplete, h.bandInList, h.indexBounded, h.activeIndex, h.activeReady, fun _ => hready⟩
  have hindex := symbolIndex_succ h.indexBounded
  have hle := h.activeIndex hactive
  obtain hs | ⟨hnext, hs⟩ | ⟨-, hs⟩ := hs <;> rw [hs]
  · exact ⟨h.someFreq, h.freqFits, h.symComplete, h.bandInList, h.indexBounded, h.activeIndex, h.activeReady, fun _ => hready⟩
  · exact ⟨h.someFreq, h.freqFits, h.symComplete, h.bandInList, by dsimp only; omega, fun _ => by dsimp only; omega,
      h.activeReady, fun _ => hready⟩
  · exact ⟨h.someFreq, h.freqFits, h.symComplete, h.bandInList, by dsimp only; omega, nofun, nofun, fun _ => hready⟩

theorem Inv.fillLoop {s : State} (h : Inv s) (hready : s.ready = true) : Inv (fillLoop s) := by
  refine (fillLoop_induction (P := fun t => Inv t ∧ t.ready = true) ?_ ?_ ⟨h, hready⟩).1
  · exact fun t ⟨ht, hr⟩ => ⟨ht.fillTurn hr, by simpa using hr⟩
  · exact fun t ⟨ht, hr⟩ => ⟨ht.bookkeeping _ _ _ _, hr⟩

/-- INIT's checks are what the invariant asks of READY (R106). -/
theorem inv_initialise {s : State} (hcheck : initCheck s = none) : Inv (initialise s) := by
  obtain ⟨hsome, hfits, hsyms⟩ := initCheck_none.1 hcheck
  exact ⟨fun _ => hsome, fun _ => hfits, fun _ => hsyms, fun _ => hsome, by simp, nofun, nofun, fun _ => rfl⟩

/-- Settles O53: each effect of a step keeps the invariant. -/
theorem everyStepKeepsTheRecordInvariant : Obligations.EveryStepKeepsTheRecordInvariant := by
  intro s s' h hstep
  cases stepEffect_of_step hstep with
  | reset => exact inv_of_unready rfl rfl rfl (by simp)
  | bookkeeping => exact h.bookkeeping _ _ _ _
  | configured _ hready hready' hactive hindex hfill =>
    exact inv_of_unready (hready'.trans hready) (hactive.trans (h.active_of_unready hready))
      (hfill.trans (h.fillRemaining_of_unready hready)) (hindex ▸ h.indexBounded)
  | initialised _ _ _ _ _ _ _ hcheck => exact Inv.bookkeeping (inv_initialise (s := accept _ _ s) hcheck) _ _ _ _
  | resumed _ hfill => exact h.fillLoop (h.fillReady hfill)
  | filled _ hready => exact ((h.accept _ _).fillArm hready _).fillLoop (by simpa using hready)

/-- Settles O54: after reset nothing is in progress. -/
theorem resetHasTheRecordInvariant : Obligations.ResetHasTheRecordInvariant :=
  inv_of_unready rfl rfl rfl (by decide)

/-! ### The tone invariant (R22) -/

theorem toneInv_of_idle {s : State} (h : s.active = false) : ToneInv s := by
  simp [ToneInv, h]

/-- START computes the tone word of symbol 0 (R123). -/
theorem toneInv_startFrame (s : State) : ToneInv (startFrame s) := fun _ => ⟨by simp, rfl⟩

theorem ToneInv.fillArm {s : State} (h : ToneInv s) (count : BitVec 32) : ToneInv (fillArm count s) := by
  obtain ⟨-, -, hs⟩ | hs := fillArm_cases count s <;> rw [hs]
  · exact toneInv_startFrame s
  · exact h

/-- A turn keeps the tone, or moves it with the symbol, or ends the frame (R129, R130). -/
theorem ToneInv.fillTurn {s : State} (h : ToneInv s) : ToneInv (fillTurn s) := by
  obtain ⟨hidle, _, _, _, _, hs⟩ | ⟨-, _, _, _, _, _, _, hs | ⟨hnext, hs⟩ | ⟨-, hs⟩⟩ := fillTurn_cases s <;> rw [hs]
  · exact toneInv_of_idle hidle
  · exact h
  · exact fun _ => ⟨Nat.lt_succ_iff.1 hnext, rfl⟩
  · exact toneInv_of_idle rfl

theorem ToneInv.fillLoop {s : State} (h : ToneInv s) : ToneInv (fillLoop s) :=
  fillLoop_induction (P := ToneInv) (fun _ ht => ht.fillTurn) (fun _ ht => ht) h

/-- Settles O55: outside a FILL the core is idle or writes none of the fields of the tone. -/
theorem everyStepKeepsTheToneInvariant : Obligations.EveryStepKeepsTheToneInvariant := by
  intro s s' h htone hstep
  cases stepEffect_of_step hstep with
  | reset => exact toneInv_of_idle rfl
  | bookkeeping => exact htone
  | configured _ hready _ hactive => exact toneInv_of_idle (hactive.trans (h.active_of_unready hready))
  | initialised => exact toneInv_of_idle rfl
  | resumed => exact htone.fillLoop
  | filled => exact (ToneInv.fillArm (s := accept _ _ s) htone _).fillLoop

/-! ### What READY, `active` and the shifts do -/

/-- Settles O47: in READY a step writes only flags, host's lines and what a FILL writes. -/
theorem configurationFixedWhileReady : Obligations.ConfigurationFixedWhileReady := by
  intro s s' hrst hready hstep
  cases stepEffect_of_step hstep with
  | reset hrst' => simp [hrst] at hrst'
  | bookkeeping => exact ⟨hready, rfl, rfl, rfl, rfl, rfl, rfl⟩
  | configured _ hunready => simp [hready] at hunready
  | initialised _ hunready => simp [hready] at hunready
  | resumed => simp [hready]
  | filled => simp [fillArm_eq, hready]

/-- Settles O48: of the effects of a step only INIT's raises `ready`. -/
theorem readyIsEnteredOnlyByInit : Obligations.ReadyIsEnteredOnlyByInit := by
  intro s s' hstep hunready hready
  cases stepEffect_of_step hstep with
  | reset => simp at hready
  | bookkeeping => simp [hunready] at hready
  | configured _ _ hready' => simp [hready', hunready] at hready
  | initialised hrst _ _ t rest hport hdecode hcheck => exact ⟨hrst, ⟨t, rest, hport, hdecode⟩, initCheck_none.1 hcheck⟩
  | resumed => simp [hunready] at hready
  | filled _ hready' => simp [hunready] at hready'

/-- Settles O49: an idle core's loop stays idle, so only the scheduler evaluation of an accepted FILL raises `active`. -/
theorem activeRisesOnlyInStart : Obligations.ActiveRisesOnlyInStart := by
  intro s s' hstep hidle hactive
  cases stepEffect_of_step hstep with
  | reset => simp at hactive
  | bookkeeping => simp [hidle] at hactive
  | configured _ _ _ hactive' => simp [hactive', hidle] at hactive
  | initialised => simp at hactive
  | resumed => simp [fillLoop_active_of_idle hidle] at hactive
  | filled hrst hready t rest count hport hdecode =>
    obtain ⟨-, hsec, -⟩ | hs := fillArm_cases count (accept t rest s)
    · exact ⟨hrst, hready, t, rest, count, hport, hdecode, hsec⟩
    · rw [hs, fillLoop_active_of_idle (by exact hidle)] at hactive
      cases hactive

/-- `symbol_index` is at most 162, and it is 162 exactly when the frame is over: what a loop keeps from a transmitting state. -/
def FrameOverAt162 (s : State) : Prop :=
  s.symbolIndex.toNat ≤ 162 ∧ (s.active = false ↔ s.symbolIndex.toNat = 162)

theorem Inv.frameOverAt162 {s : State} (h : Inv s) (hactive : s.active = true) : FrameOverAt162 s := by
  have := h.activeIndex hactive
  exact ⟨by omega, by simp [hactive]; omega⟩

theorem FrameOverAt162.fillTurn {s : State} (h : FrameOverAt162 s) : FrameOverAt162 (fillTurn s) := by
  obtain ⟨hle, hiff⟩ := h
  obtain ⟨-, _, _, _, _, hs⟩ | ⟨hactive, _, _, _, _, _, _, hs⟩ := fillTurn_cases s
  · rw [hs]
    exact ⟨hle, hiff⟩
  have hindex := symbolIndex_succ hle
  have hne : s.symbolIndex.toNat ≠ 162 := by simp [← hiff, hactive]
  obtain hs | ⟨hnext, hs⟩ | ⟨hend, hs⟩ := hs <;> rw [hs]
  · exact ⟨hle, hiff⟩
  · exact ⟨hnext.le, by simp only [hactive, hnext.ne, Bool.true_eq_false]⟩
  · exact ⟨by dsimp only; omega, by simp only [true_iff]; omega⟩

theorem FrameOverAt162.fillLoop {s : State} (h : FrameOverAt162 s) : FrameOverAt162 (fillLoop s) :=
  fillLoop_induction (P := FrameOverAt162) (fun _ ht => ht.fillTurn) (fun _ ht => ht) h

/-- Settles O50: a transmitting core is READY, and its loop ends the frame exactly at 162. -/
theorem activeFallsExactlyAt162 : Obligations.ActiveFallsExactlyAt162 := by
  intro s s' h hrst hactive hstep
  have hover := h.frameOverAt162 hactive
  have hready := h.activeReady hactive
  cases stepEffect_of_step hstep with
  | reset hrst' => simp [hrst] at hrst'
  | bookkeeping => exact hover.2
  | configured _ hunready => simp [hready] at hunready
  | initialised _ hunready => simp [hready] at hunready
  | resumed => exact hover.fillLoop.2
  | filled _ _ t rest count =>
    have harm : FrameOverAt162 (fillArm count (accept t rest s)) := by
      rw [fillArm_eq, schedule_of_active (s := accept t rest s) hactive]
      exact hover
    exact harm.fillLoop.2

/-- Settles O51: a loop keeps the shifts, and keeps the index of an idle core, so only START moves them. -/
theorem shiftsAndIndexMoveOnlyInStart : Obligations.ShiftsAndIndexMoveOnlyInStart := by
  intro s s' hrst hready hstep
  cases stepEffect_of_step hstep with
  | reset hrst' => simp [hrst] at hrst'
  | bookkeeping => simp
  | configured _ hunready => simp [hready] at hunready
  | initialised _ hunready => simp [hready] at hunready
  | resumed =>
    refine ⟨.inl ⟨by simp, by simp⟩, ?_⟩
    rintro (hmove | hmove | ⟨hidle, hmove⟩)
    · simp at hmove
    · simp at hmove
    · exact absurd (fillLoop_symbolIndex_of_idle hidle) hmove
  | filled _ _ t rest count hport hdecode =>
    simp only [fillLoop_shift1, fillLoop_shift2]
    obtain ⟨hidle, hsec, hs⟩ | hs := fillArm_cases count (accept t rest s)
    · refine ⟨?_, fun _ => ⟨hidle, t, rest, count, hport, hdecode, hsec⟩⟩
      cases hswap : s.swapOnStart <;> simp [hs, hswap]
    · refine ⟨.inl (by simp [hs]), ?_⟩
      rintro (hmove | hmove | ⟨hidle, hmove⟩)
      · simp [hs] at hmove
      · simp [hs] at hmove
      · rw [hs] at hmove
        exact absurd (fillLoop_symbolIndex_of_idle (by exact hidle)) hmove

end Sys2Proof.Machine

/-! ## Proofs of the state family: commands, responses and a FILL's beats -/

namespace Sys2Proof.Machine

/-! ### The kinds of step as equations -/

theorem step_of_reset {s : State} (hrst : s.rst = true) : step s = .next (resetEdge s) := by
  rw [step, nextWork_reset hrst]

theorem step_of_idle {s : State} (hrst : s.rst = false) (hfree : s.fillRemaining = 0) (hport : s.cmdPort = []) :
    step s = .next s := by
  rw [step, nextWork_idle hrst hfree hport]

/-- A free core out of reset runs the command its port presents (R38). -/
theorem step_of_command {s : State} {t : Transfer} {rest : List Transfer} {i : Instr} (hrst : s.rst = false)
    (hfree : s.fillRemaining = 0) (hport : s.cmdPort = t :: rest) (hdecode : decode t.word = .ok i) :
    step s = exec i (accept t rest s) := by
  rw [step, nextWork_command hrst hfree hport]
  simp only [hdecode]

/-- A free core out of reset rejects a word that is no command (R92). -/
theorem step_of_illegal {s : State} {t : Transfer} {rest : List Transfer} {e : Illegal} (hrst : s.rst = false)
    (hfree : s.fillRemaining = 0) (hport : s.cmdPort = t :: rest) (hdecode : decode t.word = .error e) :
    step s = .next (reject .illegalCmd (accept t rest s)) := by
  rw [step, nextWork_command hrst hfree hport]
  simp only [hdecode]

/-- A FILL in progress goes on in the next step (R199). -/
theorem step_of_fill {s : State} (hrst : s.rst = false) (hfill : s.fillRemaining ≠ 0) : step s = .next (fillLoop s) := by
  rw [step, nextWork_resume hrst hfill]

/-- Settles O6: a free core out of reset accepts the head of its port and runs it. -/
theorem stepRunsTheDecodedCommand : Obligations.StepRunsTheDecodedCommand :=
  fun _ _ _ _ hrst hfree hport hdecode => step_of_command hrst hfree hport hdecode

/-- Settles O9: the fields of the reset state as written. -/
theorem resetStateIsAllZero : Obligations.ResetStateIsAllZero := by
  unfold Obligations.ResetStateIsAllZero
  decide

/-! ### STATUS and CTRL (R41, R42) -/

/-- STATUS bit by bit. -/
theorem statusWord_getLsbD (s : State) (k : Nat) : (statusWord s).getLsbD k =
    if k = 0 then s.ready else if k = 1 then s.active else if k = 2 then s.swapOnStart
    else if k < 8 then false else s.errflags.getLsbD (k - 8) := by
  simp only [statusWord, BitVec.getLsbD_cast, BitVec.getLsbD_append, BitVec.getLsbD_ofBool]
  match k with
  | 0 => rfl
  | 1 => rfl
  | 2 => rfl
  | j + 3 =>
    by_cases hzero : j < 5
    · simp [hzero]
    · by_cases hflag : j - 5 < 8
      · simp [hzero, hflag, Nat.le_of_not_lt hzero]
      · simp [hzero, hflag, BitVec.getLsbD_of_ge s.errflags (j - 5) (by omega)]

/-- Settles O14: STATUS reads as its word, and the register map gives it no write. -/
theorem statusBitLayout : Obligations.StatusBitLayout := by
  intro s
  refine ⟨⟨statusWord s, exec_rd_at s .status, ?_⟩, fun hready data => ?_⟩
  · simp only [statusWord_getLsbD]
    refine ⟨by simp, by simp, by simp, fun k hlo hhi => ?_, fun e => ?_, fun k hk => ?_⟩
    · rw [if_neg (by omega), if_neg (by omega), if_neg (by omega), if_pos (by omega)]
    · cases e <;> simp [errNumber, errFlag]
    · rw [if_neg (by omega), if_neg (by omega), if_neg (by omega), if_neg (by omega),
        BitVec.getLsbD_of_ge _ _ (by omega)]
  · rw [exec_wr_unlocked hready]
    rfl

/-- CTRL bit by bit, as it reads. -/
theorem ctrlWord_getLsbD (s : State) (k : Nat) : (ctrlWord s).getLsbD k = (decide (k = 0) && s.swapOnStart) := by
  rw [ctrlWord, BitVec.getLsbD_setWidth, BitVec.getLsbD_ofBool]
  by_cases hk : k = 0 <;> simp [hk]

/-- The reserved bits of CTRL are the bits from 1 up. -/
theorem ctrlReserved_eq_zero_iff_bits (data : Word) : ctrlReserved data = 0 ↔ ∀ k : Nat, 1 ≤ k → data.getLsbD k = false := by
  constructor
  · intro h k hk
    by_cases hw : k < 64
    · have := congrArg (·.getLsbD (k - 1)) h
      simpa [ctrlReserved, BitVec.getLsbD_extractLsb', show k - 1 < 63 by omega, show 1 + (k - 1) = k by omega] using this
    · exact BitVec.getLsbD_of_ge data k (by omega)
  · intro h
    apply BitVec.eq_of_getLsbD_eq
    intro k hk
    simp [ctrlReserved, BitVec.getLsbD_extractLsb', h]

/-- WR to CTRL before INIT (R102). -/
theorem exec_wr_ctrl {s : State} (hready : s.ready = false) (data : Word) : exec (.wr 0x13 data) s =
    if ctrlReserved data ≠ 0 then .next (reject .badValue s)
    else .next (respond 0 { s with swapOnStart := data.getLsbD 0 }) := by
  rw [exec_wr_unlocked hready, show regAt 0x13 = some .ctrl from regAt_regAddr .ctrl]
  simp only [writeReg]
  split <;> rfl

/-- Settles O15. -/
theorem ctrlBitLayout : Obligations.CtrlBitLayout := by
  intro s
  refine ⟨⟨ctrlWord s, exec_rd_at s .ctrl, ?_, fun k hk => ?_⟩, fun hready data ⟨k, hk, hbit⟩ => ?_, fun hready data hbits => ?_⟩
  · simp only [ctrlWord_getLsbD, decide_true, Bool.true_and]
  · simp [ctrlWord_getLsbD, show k ≠ 0 by omega]
  · have hne : ctrlReserved data ≠ 0 := fun h => by
      simp [(ctrlReserved_eq_zero_iff_bits data).1 h k hk] at hbit
    rw [exec_wr_ctrl hready, if_pos hne]
    rfl
  · rw [exec_wr_ctrl hready, if_neg (not_not.2 ((ctrlReserved_eq_zero_iff_bits data).2 hbits))]
    rfl

/-! ### One response for each command (R39, R100) -/

/-- Every command has a next state (R170). -/
theorem exec_total (i : Instr) (s : State) : ∃ s', exec i s = .next s' := by
  cases i with
  | nop => exact ⟨_, rfl⟩
  | wr reg data =>
    cases hready : s.ready with
    | true => exact ⟨_, exec_wr_locked hready reg data⟩
    | false =>
      rw [exec_wr_unlocked hready]
      cases writeReg s data (regAt reg) <;> exact ⟨_, rfl⟩
  | rd reg => exact ⟨_, exec_rd s reg⟩
  | pushf data => simp only [exec, execPushf]; split <;> exact ⟨_, rfl⟩
  | pushs data =>
    simp only [exec, execPushs]
    split
    · exact ⟨_, rfl⟩
    · split <;> exact ⟨_, rfl⟩
  | init =>
    simp only [exec, execInit]
    split
    · exact ⟨_, rfl⟩
    · split <;> exact ⟨_, rfl⟩
  | fill count => simp only [exec, execFill]; split <;> exact ⟨_, rfl⟩

theorem rspCode_le (e : ErrCode) : (rspCode e).toNat ≤ 8 := by
  cases e <;> decide

/-- `s'` follows `s` by one completed command: one response with a code 0 to 8, no command in execution. -/
def AnswersOnce (s s' : State) : Prop :=
  ∃ r : Response, s'.responses = s.responses ++ [r] ∧ r.code.toNat ≤ 8 ∧ s'.cmdPort = s.cmdPort ∧ s'.fillRemaining = 0

theorem answersOnce_reject {s : State} (hfree : s.fillRemaining = 0) (e : ErrCode) : AnswersOnce s (reject e s) :=
  ⟨_, rfl, rspCode_le e, rfl, hfree⟩

theorem answersOnce_respond {s t : State} (hresponses : t.responses = s.responses) (hport : t.cmdPort = s.cmdPort)
    (hfree : t.fillRemaining = 0) (v : Word) : AnswersOnce s (respond v t) :=
  ⟨⟨0, v⟩, by simp [hresponses], by simp, hport, hfree⟩

theorem fillTurn_iterate_cmdPort (n : Nat) (s : State) : (fillTurn^[n] s).cmdPort = s.cmdPort := by
  induction n with
  | zero => rfl
  | succ n ih => rw [Function.iterate_succ_apply', fillTurn_cmdPort, ih]

/-- A FILL whose beats are all taken answers once (R39, R44). -/
theorem answersOnce_fill {s : State} (htakes : s.hostTakes = none) (count : BitVec 32) :
    AnswersOnce s (fillLoop (fillArm count s)) := by
  rw [fillLoop_of_none (by simpa using htakes)]
  refine answersOnce_respond ?_ ?_ ?_ 0
  · rw [fillTurn_iterate_responses]; exact schedule_responses s
  · rw [fillTurn_iterate_cmdPort]; exact schedule_cmdPort s
  · simp [fillTurn_iterate_fillRemaining]

/-- Whatever a command does, it answers once when the host takes every beat. -/
theorem answersOnce_exec {i : Instr} {s s' : State} (hfree : s.fillRemaining = 0) (htakes : s.hostTakes = none)
    (hexec : exec i s = .next s') : AnswersOnce s s' := by
  obtain ⟨e, rfl⟩ | ⟨-, v, rfl⟩ | ⟨-, _, _, -, hwrite⟩ | ⟨-, _, -, rfl⟩ | ⟨-, _, _, -, -, rfl⟩ | ⟨-, -, -, rfl⟩ |
    ⟨-, count, -, rfl⟩ := exec_cases hexec
  · exact answersOnce_reject hfree e
  · exact answersOnce_respond rfl rfl hfree v
  · obtain rfl | rfl | rfl | rfl := hwrite <;> exact answersOnce_respond rfl rfl hfree 0
  · exact answersOnce_respond rfl rfl hfree 0
  · exact answersOnce_respond rfl rfl hfree 0
  · exact answersOnce_respond rfl rfl hfree 0
  · exact answersOnce_fill htakes count

/-- Settles O44: a legal word is run, an illegal one rejected, and both answer once. -/
theorem everyCommandGivesOneResponse : Obligations.EveryCommandGivesOneResponse := by
  intro s t rest hrst hfree hport htakes
  cases hdecode : decode t.word with
  | ok i =>
    obtain ⟨s', hexec⟩ := exec_total i (accept t rest s)
    obtain ⟨r, hr⟩ := answersOnce_exec (s := accept t rest s) hfree htakes hexec
    exact ⟨s', r, (step_of_command hrst hfree hport hdecode).trans hexec, hr⟩
  | error e =>
    obtain ⟨r, hr⟩ := answersOnce_reject (s := accept t rest s) hfree .illegalCmd
    exact ⟨_, r, step_of_illegal hrst hfree hport hdecode, hr⟩

/-! ### The beats of a FILL (R44, R55) -/

/-- The first `n` turns emit `n` beats, `out_last` on the one that takes the counter from 1 to 0. -/
theorem fillTurn_iterate_beats {s : State} (n : Nat) (hn : n ≤ s.fillRemaining.toNat) :
    ∃ bs : List Beat, (fillTurn^[n] s).beats = s.beats ++ bs ∧
      bs.map Beat.last = (List.range n).map fun k => decide (k + 1 = s.fillRemaining.toNat) := by
  induction n with
  | zero => exact ⟨[], by simp, rfl⟩
  | succ n ih =>
    obtain ⟨bs, hbeats, hlast⟩ := ih (by omega)
    obtain ⟨b, hb, hblast⟩ := fillTurn_beats (fillTurn^[n] s)
    refine ⟨bs ++ [b], ?_, ?_⟩
    · rw [Function.iterate_succ_apply', hb, hbeats, List.append_assoc]
    · have hcount : (s.fillRemaining - BitVec.ofNat 32 n).toNat = s.fillRemaining.toNat - n := by
        have := s.fillRemaining.isLt
        simp only [BitVec.toNat_sub, BitVec.toNat_ofNat]
        omega
      have hbit : b.last = decide (n + 1 = s.fillRemaining.toNat) := by
        rw [hblast, outLast, fillTurn_iterate_fillRemaining, beq_eq_decide, decide_eq_decide, ← BitVec.toNat_inj, hcount]
        change s.fillRemaining.toNat - n = 1 ↔ _
        omega
      simp [List.range_succ, hlast, hbit]

/-- Settles O26: all `count` turns run, and the last beat is the one at counter 1. -/
theorem fillEmitsExactlyCountBeats : Obligations.FillEmitsExactlyCountBeats := by
  intro s count hready htakes
  obtain ⟨bs, hbeats, hlast⟩ := fillTurn_iterate_beats (s := fillArm count s) count.toNat le_rfl
  have hloop := fillLoop_of_none (s := fillArm count s) (by simpa using htakes)
  refine ⟨_, bs, exec_fill_ready hready count, ?_, by simpa using congrArg List.length hlast, fun k hk => ?_, ?_, ?_⟩
  · rw [hloop, respond_beats, fillArm_fillRemaining, hbeats]
    exact congrArg (· ++ bs) (schedule_beats s)
  · rw [← List.getElem?_map, hlast]
    simp [hk]
  · rw [hloop, respond_responses, fillTurn_iterate_responses]
    exact congrArg (· ++ _) (schedule_responses s)
  · simp [hloop, fillTurn_iterate_fillRemaining]

end Sys2Proof.Machine

/-! ## Proofs of the state family: what a FILL's loop does not read -/

namespace Sys2Proof.Machine

/-! ### The loop reads neither FTAB nor, but to stop, the host's line -/

/-- The state with FTAB and the host's line of R44 replaced. -/
def withUnread (ftab : Vector Word 16) (takes : Option Nat) (s : State) : State :=
  { s with ftab := ftab, hostTakes := takes }

theorem advance_withUnread (ftab : Vector Word 16) (takes : Option Nat) (s : State) :
    advance (withUnread ftab takes s) = withUnread ftab takes (advance s) := by
  by_cases hwrap : symbolWraps s = true
  · by_cases hnext : (s.symbolIndex + 1).toNat < 162
    · rw [advance_of_tone hwrap hnext, advance_of_tone (s := withUnread ftab takes s) hwrap hnext]
      rfl
    · rw [advance_of_end hwrap hnext, advance_of_end (s := withUnread ftab takes s) hwrap hnext]
      rfl
  · rw [advance_of_no_wrap hwrap, advance_of_no_wrap (s := withUnread ftab takes s) hwrap]
    rfl

theorem sample_withUnread (ftab : Vector Word 16) (takes : Option Nat) (s : State) :
    sample (withUnread ftab takes s) = withUnread ftab (takes.map (· - 1)) (sample s) := by
  cases hactive : s.active with
  | true =>
    rw [sample_transmitting hactive, sample_transmitting (s := withUnread ftab takes s) hactive, ← advance_withUnread]
    rfl
  | false =>
    rw [sample_idle hactive, sample_idle (s := withUnread ftab takes s) hactive]
    rfl

/-- A turn does the same whatever FTAB holds and however many beats the host goes on to take. -/
theorem fillTurn_withUnread (ftab : Vector Word 16) (takes : Option Nat) (s : State) :
    fillTurn (withUnread ftab takes s) = withUnread ftab (takes.map (· - 1)) (fillTurn s) := by
  rw [fillTurn, sample_withUnread]
  rfl

/-! ### A stall changes no value (R44, R199) -/

/-- The host holds or frees the output port (R44). -/
def withHost (takes : Option Nat) (s : State) : State := { s with hostTakes := takes }

/-- A host that takes every beat lets a turn do what it did for any other host. -/
theorem fillTurn_iterate_withHost_none (n : Nat) (s : State) :
    fillTurn^[n] (withHost none s) = withHost none (fillTurn^[n] s) := by
  have hturn : Function.Commute fillTurn (withHost none) := fun t => by
    rw [show withHost none t = withUnread t.ftab none t from rfl, fillTurn_withUnread, ← fillTurn_ftab]
    rfl
  exact hturn.iterate_left n s

theorem fillArm_withHost (takes : Option Nat) (count : BitVec 32) (s : State) :
    fillArm count (withHost takes s) = withHost takes (fillArm count s) := by
  rw [fillArm, schedule, show startCondition (withHost takes s) = startCondition s from rfl, fillArm, schedule]
  split <;> rfl

/-- A loop whose host takes only `k` of its beats stops after `k` turns, without a response (R199). -/
theorem fillLoop_of_stall {s : State} {k : Nat} (htakes : s.hostTakes = some k) (hk : k < s.fillRemaining.toNat) :
    fillLoop s = fillTurn^[k] s ∧ (fillLoop s).fillRemaining.toNat = s.fillRemaining.toNat - k := by
  have hcount : (fillTurn^[k] s).fillRemaining.toNat = s.fillRemaining.toNat - k := by
    have := s.fillRemaining.isLt
    simp only [fillTurn_iterate_fillRemaining, BitVec.toNat_sub, BitVec.toNat_ofNat]
    omega
  have hloop : fillLoop s = fillTurn^[k] s := by
    rw [fillLoop, fillTurns_of_some k _ s htakes, Nat.min_eq_left hk.le, fillRespond, if_neg]
    intro hzero
    simp [hzero] at hcount
    omega
  exact ⟨hloop, hloop ▸ hcount⟩

/-- Once let go, a stalled loop ends as the loop that was never stalled (R44). -/
theorem fillLoop_released {s : State} {k : Nat} (hk : k < s.fillRemaining.toNat) :
    fillLoop (withHost none (fillLoop (withHost (some k) s))) = fillLoop (withHost none s) := by
  obtain ⟨hloop, hleft⟩ := fillLoop_of_stall (s := withHost (some k) s) rfl hk
  have hsum : (fillLoop (withHost (some k) s)).fillRemaining.toNat + k = s.fillRemaining.toNat := by
    rw [hleft]
    exact Nat.sub_add_cancel hk.le
  calc fillLoop (withHost none (fillLoop (withHost (some k) s)))
      = respond 0 (fillTurn^[(fillLoop (withHost (some k) s)).fillRemaining.toNat]
          (withHost none (fillLoop (withHost (some k) s)))) := fillLoop_of_none rfl
    _ = respond 0 (fillTurn^[(fillLoop (withHost (some k) s)).fillRemaining.toNat] (fillTurn^[k] (withHost none s))) := by
        conv_lhs => rw [show withHost none (fillLoop (withHost (some k) s)) = fillTurn^[k] (withHost none s) by
          rw [hloop, ← fillTurn_iterate_withHost_none]; rfl]
    _ = respond 0 (fillTurn^[s.fillRemaining.toNat] (withHost none s)) := by
        rw [← Function.iterate_add_apply, hsum]
    _ = fillLoop (withHost none s) := (fillLoop_of_none (s := withHost none s) rfl).symm

theorem exec_fill_withHost {s : State} (hready : s.ready = true) (takes : Option Nat) (count : BitVec 32) :
    exec (.fill count) (withHost takes s) = .next (fillLoop (withHost takes (fillArm count s))) := by
  rw [← fillArm_withHost]
  exact exec_fill_ready (s := withHost takes s) hready count

/-- Settles O28: the turns before and after the stall are together the turns of the FILL that was never stalled. -/
theorem stallChangesNoValue : Obligations.StallChangesNoValue := by
  intro s count k hready hrst hk
  obtain ⟨-, hleft⟩ := fillLoop_of_stall (s := withHost (some k) (fillArm count s)) rfl hk
  have hfill : (fillLoop (withHost (some k) (fillArm count s))).fillRemaining ≠ 0 := fun hzero => by
    have hpos : 0 < count.toNat - k := Nat.sub_pos_of_lt hk
    rw [hzero] at hleft
    exact hpos.ne hleft
  have hout : (fillLoop (withHost (some k) (fillArm count s))).rst = false :=
    (fillLoop_rst _).trans ((schedule_rst s).trans hrst)
  refine ⟨_, _, exec_fill_withHost hready (some k) count, ?_, exec_fill_withHost hready none count⟩
  rw [← fillLoop_released (s := fillArm count s) hk]
  exact step_of_fill (s := withHost none _) hout hfill

/-! ### Nothing depends on an entry that was not pushed (R40, R46) -/

/-- FTAB replaced. -/
def withFtab (ftab : Vector Word 16) (s : State) : State := { s with ftab := ftab }

theorem fillTurn_withFtab (ftab : Vector Word 16) (s : State) : fillTurn (withFtab ftab s) = withFtab ftab (fillTurn s) := by
  rw [show withFtab ftab s = withUnread ftab s.hostTakes s from rfl, fillTurn_withUnread, ← fillTurn_hostTakes]
  rfl

theorem fillTurns_withFtab (ftab : Vector Word 16) (n : Nat) :
    ∀ s, fillTurns n (withFtab ftab s) = withFtab ftab (fillTurns n s) := by
  induction n with
  | zero => exact fun _ => rfl
  | succ n ih =>
    intro s
    rw [fillTurns, fillTurns, show outReady (withFtab ftab s) = outReady s from rfl]
    split
    · rw [fillTurn_withFtab, ih]
    · rfl

theorem fillRespond_withFtab (ftab : Vector Word 16) (s : State) :
    fillRespond (withFtab ftab s) = withFtab ftab (fillRespond s) :=
  (apply_ite (withFtab ftab) (s.fillRemaining = 0) (respond 0 s) s).symm

/-- The loop of a FILL reads no frequency word. -/
theorem fillLoop_withFtab (ftab : Vector Word 16) (s : State) : fillLoop (withFtab ftab s) = withFtab ftab (fillLoop s) := by
  rw [fillLoop, fillTurns_withFtab, fillRespond_withFtab]
  rfl

/-- Arming a FILL reads FTAB at `band_index` alone (R123). -/
theorem fillArm_withFtab {ftab : Vector Word 16} {s : State}
    (hband : ftabRead (withFtab ftab s) s.bandIndex.toNat = ftabRead s s.bandIndex.toNat) (count : BitVec 32) :
    fillArm count (withFtab ftab s) = withFtab ftab (fillArm count s) := by
  have hstart : startFrame (withFtab ftab s) = withFtab ftab (startFrame s) := by
    rw [startFrame, show (withFtab ftab s).bandIndex = s.bandIndex from rfl, hband]
    rfl
  rw [fillArm, schedule, show startCondition (withFtab ftab s) = startCondition s from rfl, hstart, fillArm, schedule]
  split <;> rfl

theorem AgreeOnWritten.refl (s : State) : AgreeOnWritten s s := ⟨fun _ _ _ => rfl, fun _ _ _ => rfl, rfl⟩

/-- Both stores replaced. -/
def withStores (ftab : Vector Word 16) (stab : Vector Sym 162) (s : State) : State := { s with ftab := ftab, stab := stab }

/-- The second state is the first with other stores. -/
theorem AgreeOnWritten.exists_stores {s t : State} (h : AgreeOnWritten s t) : ∃ ftab stab, t = withStores ftab stab s :=
  ⟨t.ftab, t.stab, h.rest.symm⟩

/-- What keeps counts and stores, and treats both states alike but for their stores, keeps the agreement. -/
theorem AgreeOnWritten.of_kept {s t s' t' : State} (h : AgreeOnWritten s t) (hfreqs : s'.freqCount = s.freqCount)
    (hsyms : s'.symCount = s.symCount) (hftab : s'.ftab = s.ftab) (hstab : s'.stab = s.stab)
    (hrest : withStores t.ftab t.stab s' = t') : AgreeOnWritten s' t' := by
  subst hrest
  refine ⟨fun k hk hlt => ?_, fun k hk hlt => ?_, rfl⟩
  · simpa [ftabRead, hk, hftab, withStores] using h.freqs k hk (hfreqs ▸ hlt)
  · simpa [stabRead, hk, hstab, withStores] using h.syms k hk (hsyms ▸ hlt)

/-! #### The operations of the commands -/

theorem AgreeOnWritten.respond {s t : State} (h : AgreeOnWritten s t) (v : Word) :
    AgreeOnWritten (respond v s) (respond v t) :=
  h.of_kept rfl rfl rfl rfl (congrArg (Machine.respond v) h.rest)

theorem AgreeOnWritten.reject {s t : State} (h : AgreeOnWritten s t) (e : ErrCode) :
    AgreeOnWritten (reject e s) (reject e t) :=
  h.of_kept rfl rfl rfl rfl (congrArg (Machine.reject e) h.rest)

theorem AgreeOnWritten.accept {s t : State} (h : AgreeOnWritten s t) (c : Transfer) (rest : List Transfer) :
    AgreeOnWritten (accept c rest s) (accept c rest t) :=
  h.of_kept rfl rfl rfl rfl (congrArg (Machine.accept c rest) h.rest)

theorem AgreeOnWritten.initialise {s t : State} (h : AgreeOnWritten s t) : AgreeOnWritten (initialise s) (initialise t) :=
  h.of_kept rfl rfl rfl rfl (congrArg Machine.initialise h.rest)

/-- RD answers the same in both states (R103). -/
theorem AgreeOnWritten.readReg_eq {s t : State} (h : AgreeOnWritten s t) (r : RegName) : readReg t r = readReg s r := by
  obtain ⟨ftab, stab, rfl⟩ := h.exists_stores
  cases r with
  | ftab k => exact if_ctx_congr Iff.rfl (fun hlt => congrArg some (h.freqs k k.isLt hlt).symm) (fun _ => rfl)
  | stab k =>
    exact if_ctx_congr Iff.rfl (fun hlt => congrArg (fun v => some (v.setWidth 64)) (h.syms k k.isLt hlt).symm) (fun _ => rfl)
  | _ => rfl

/-- WR does the same in both states (R102). -/
theorem AgreeOnWritten.writeReg {s t : State} (h : AgreeOnWritten s t) (data : Word) (r : Option RegName) :
    (∃ e, writeReg s data r = .error e ∧ writeReg t data r = .error e) ∨
    ∃ s' t', writeReg s data r = .ok s' ∧ writeReg t data r = .ok t' ∧ AgreeOnWritten s' t' := by
  obtain ⟨ftab, stab, rfl⟩ := h.exists_stores
  rcases r with _ | r
  · exact .inl ⟨_, rfl, rfl⟩
  cases r with
  | symbolStep => exact .inr ⟨_, _, rfl, rfl, h.of_kept rfl rfl rfl rfl rfl⟩
  | shift1 => exact .inr ⟨_, _, rfl, rfl, h.of_kept rfl rfl rfl rfl rfl⟩
  | shift2 => exact .inr ⟨_, _, rfl, rfl, h.of_kept rfl rfl rfl rfl rfl⟩
  | ctrl =>
    simp only [Machine.writeReg]
    split
    · exact .inl ⟨_, rfl, rfl⟩
    · exact .inr ⟨_, _, rfl, rfl, h.of_kept rfl rfl rfl rfl rfl⟩
  | _ => exact .inl ⟨_, rfl, rfl⟩

theorem countFreq_toNat (c : BitVec 5) : (countFreq c).toNat = min (c.toNat + 1) 31 := by
  rw [countFreq, BitVec.toNat_ofNat]
  omega

theorem countSym_toNat (c : BitVec 8) : (countSym c).toNat = min (c.toNat + 1) 255 := by
  rw [countSym, BitVec.toNat_ofNat]
  omega

theorem ftabRead_ftabWrite {k : Nat} (hk : k < 16) (j : Nat) (v : Word) (s : State) :
    ftabRead (ftabWrite j v s) k = if j = k then v else ftabRead s k := by
  simp [ftabRead, hk, Vector.getElem_setIfInBounds]

theorem stabRead_stabWrite {k : Nat} (hk : k < 162) (j : Nat) (v : Sym) (s : State) :
    stabRead (stabWrite j v s) k = if j = k then v else stabRead s k := by
  simp [stabRead, hk, Vector.getElem_setIfInBounds]

/-- PUSHF writes the same entry in both states, the first that was not written (R104). -/
theorem AgreeOnWritten.pushf {s t : State} (h : AgreeOnWritten s t) (data : Word) :
    AgreeOnWritten { ftabWrite s.freqCount.toNat data s with freqCount := countFreq s.freqCount }
      { ftabWrite t.freqCount.toNat data t with freqCount := countFreq t.freqCount } := by
  obtain ⟨ftab, stab, rfl⟩ := h.exists_stores
  refine ⟨fun k hk hlt => ?_, h.syms, rfl⟩
  show ftabRead (ftabWrite s.freqCount.toNat data s) k =
    ftabRead (ftabWrite s.freqCount.toNat data (withStores ftab stab s)) k
  rw [ftabRead_ftabWrite hk, ftabRead_ftabWrite hk]
  split
  · rfl
  · have := countFreq_toNat s.freqCount
    exact h.freqs k hk (by dsimp only at hlt; omega)

/-- PUSHS writes the same entry in both states, the first that was not written (R105). -/
theorem AgreeOnWritten.pushs {s t : State} (h : AgreeOnWritten s t) (v : Sym) :
    AgreeOnWritten { stabWrite s.symCount.toNat v s with symCount := countSym s.symCount }
      { stabWrite t.symCount.toNat v t with symCount := countSym t.symCount } := by
  obtain ⟨ftab, stab, rfl⟩ := h.exists_stores
  refine ⟨h.freqs, fun k hk hlt => ?_, rfl⟩
  show stabRead (stabWrite s.symCount.toNat v s) k = stabRead (stabWrite s.symCount.toNat v (withStores ftab stab s)) k
  rw [stabRead_stabWrite hk, stabRead_stabWrite hk]
  split
  · rfl
  · have := countSym_toNat s.symCount
    exact h.syms k hk (by dsimp only at hlt; omega)

/-! #### FILL: in READY the whole of STAB was pushed -/

/-- In READY the two states differ in FTAB alone (R106). -/
theorem AgreeOnWritten.exists_ftab {s t : State} (h : AgreeOnWritten s t) (hinv : Inv s) (hready : s.ready = true) :
    ∃ ftab, t = withFtab ftab s := by
  obtain ⟨ftab, stab, rfl⟩ := h.exists_stores
  have hstab : stab = s.stab := Vector.ext fun k hk => by
    simpa [stabRead, hk, withStores] using (h.syms k hk (hinv.symComplete hready ▸ hk)).symm
  exact ⟨ftab, by rw [hstab]; rfl⟩

theorem AgreeOnWritten.fillArm {s t : State} (h : AgreeOnWritten s t) (hinv : Inv s) (hready : s.ready = true)
    (count : BitVec 32) : AgreeOnWritten (fillArm count s) (fillArm count t) := by
  obtain ⟨ftab, rfl⟩ := h.exists_ftab hinv hready
  have hlt := hinv.bandInList hready
  have hband := h.freqs s.bandIndex.toNat (hlt.trans_le (hinv.freqFits hready)) hlt
  rw [fillArm_withFtab hband.symm]
  refine h.of_kept (schedule_freqCount s) (schedule_symCount s) (schedule_ftab s) (schedule_stab s) ?_
  rw [show (withFtab ftab s).stab = (Machine.fillArm count s).stab from (schedule_stab s).symm]
  rfl

theorem AgreeOnWritten.fillLoop {s t : State} (h : AgreeOnWritten s t) (hinv : Inv s) (hready : s.ready = true) :
    AgreeOnWritten (fillLoop s) (fillLoop t) := by
  obtain ⟨ftab, rfl⟩ := h.exists_ftab hinv hready
  rw [fillLoop_withFtab]
  refine h.of_kept (fillLoop_freqCount s) (fillLoop_symCount s) (fillLoop_ftab s) (fillLoop_stab s) ?_
  rw [show (withFtab ftab s).stab = (Machine.fillLoop s).stab from (fillLoop_stab s).symm]
  rfl

/-! #### Commands and steps -/

/-- Wherever the first outcome is a next state, the second is one that agrees with it. -/
def AgreeOutcomes (o p : Host.Outcome State Fault Refusal) : Prop :=
  ∀ s', o = .next s' → ∃ t', p = .next t' ∧ AgreeOnWritten s' t'

theorem AgreeOnWritten.next {s t : State} (h : AgreeOnWritten s t) : AgreeOutcomes (.next s) (.next t) := by
  rintro s' ⟨⟩
  exact ⟨t, rfl, h⟩

/-- Every command keeps the agreement. -/
theorem agreeOutcomes_exec (i : Instr) {s t : State} (hinv : Inv s) (h : AgreeOnWritten s t) :
    AgreeOutcomes (exec i s) (exec i t) := by
  have hready : t.ready = s.ready := by rw [← h.rest]
  cases i with
  | nop => exact (h.respond 0).next
  | wr reg data =>
    simp only [exec, execWr, hready]
    split
    · exact (h.reject _).next
    · obtain ⟨e, hs, ht⟩ | ⟨s', t', hs, ht, hwritten⟩ := h.writeReg data (regAt reg) <;> rw [hs, ht]
      · exact (h.reject e).next
      · exact (hwritten.respond 0).next
  | rd reg =>
    rw [exec_rd, exec_rd, show readReg t = readReg s from funext h.readReg_eq]
    cases (regAt reg).bind (readReg s) with
    | none => exact (h.reject _).next
    | some v => exact (h.respond v).next
  | pushf data =>
    simp only [exec, execPushf, hready]
    split
    · exact (h.reject _).next
    · exact ((h.pushf data).respond 0).next
  | pushs data =>
    simp only [exec, execPushs, hready]
    split
    · exact (h.reject _).next
    · split
      · exact (h.reject _).next
      · exact ((h.pushs _).respond 0).next
  | init =>
    have hcheck : initCheck t = initCheck s := by rw [← h.rest]; rfl
    simp only [exec, execInit, hready, hcheck]
    split
    · exact (h.reject _).next
    · split
      · exact (h.reject _).next
      · exact (h.initialise.respond 0).next
  | fill count =>
    simp only [exec, execFill, hready]
    split
    · have harmed : (fillArm count s).ready = true := by simpa
      exact ((h.fillArm hinv ‹_› count).fillLoop (hinv.fillArm ‹_› count) harmed).next
    · exact (h.reject _).next

/-- Settles O52: each kind of step treats the two states alike. -/
theorem unwrittenEntriesAreUnobservable : Obligations.UnwrittenEntriesAreUnobservable := by
  intro s t s' hinv h hstep
  obtain ⟨ftab, stab, rfl⟩ := h.exists_stores
  obtain ⟨hrst, rfl⟩ | ⟨hrst, hfill, rfl⟩ | ⟨hrst, hfree, hport, rfl⟩ | ⟨hrst, hfree, c, rest, hport, hcmd⟩ :=
    step_cases hstep
  · exact ⟨_, step_of_reset hrst, .refl _⟩
  · exact ⟨_, step_of_fill hrst hfill, h.fillLoop hinv (hinv.fillReady hfill)⟩
  · exact ⟨_, step_of_idle hrst hfree hport, h⟩
  obtain ⟨i, hdecode, hexec⟩ | ⟨⟨e, hdecode⟩, rfl⟩ := hcmd
  · rw [step_of_command (s := withStores ftab stab s) hrst hfree hport hdecode]
    exact agreeOutcomes_exec i (hinv.accept c rest) (h.accept c rest) s' hexec
  · exact ⟨_, step_of_illegal hrst hfree hport hdecode, (h.accept c rest).reject _⟩

end Sys2Proof.Machine

/-! ## Proofs of the memory family: a command as ten bytes (R56, R80) -/

namespace Sys2Proof

@[simp] theorem bytesOf_length (w : Cmd) : (bytesOf w).length = 10 := by simp [bytesOf]

/-- Byte `k` of a word is its bits 8k+7 to 8k. -/
theorem bytesOf_getElem? (w : Cmd) {k : Nat} (hk : k < 10) : (bytesOf w)[k]? = some (w.extractLsb' (8 * k) 8) := by
  simp [bytesOf, hk]

theorem decodeBytes_of_length {bs : List Byte} (h : bs.length = 10) :
    decodeBytes bs = decode (BitVec.ofNat 80 (numberOfBytes bs)) := if_pos h

theorem decodeBytes_of_length_ne {bs : List Byte} (h : bs.length ≠ 10) : decodeBytes bs = .error .notTenBytes := if_neg h

theorem decodeBytes_bytesOf (w : Cmd) : decodeBytes (bytesOf w) = decode w := by
  rw [decodeBytes_of_length (bytesOf_length w), numberOfBytes_bytesOf, BitVec.ofNat_toNat, BitVec.setWidth_eq]

/-- Settles O5: the number that the bytes of a word stand for is the word. -/
theorem bytesLeastSignificantFirst : Obligations.BytesLeastSignificantFirst := by
  refine ⟨fun w => ⟨bytesOf_length w, decodeBytes_bytesOf w, fun k hk => ?_⟩, fun bs hlen i hdecode => ?_⟩
  · rw [bytesOf_getElem? w hk, Option.map_some, BitVec.extractLsb'_toNat, Nat.shiftRight_eq_div_pow]
  · cases (decodeBytes_of_length_ne hlen).symm.trans hdecode

end Sys2Proof

/-! ## Proofs of the sine ROM family: the symmetries of the listing (R71) -/

namespace Sys2Proof.Machine

/-- R71 (c): half a turn negates. -/
theorem sineInt_add_halfTurn : ∀ i < 512, sineInt (i + 512) = -sineInt i := by decide +kernel

/-- R71 (c): the first half reads the same from both ends. -/
theorem sineInt_halfTurn_sub : ∀ i ≤ 512, sineInt (512 - i) = sineInt i := by decide +kernel

theorem sineInt_first_quarter_range : ∀ i ≤ 256, 0 ≤ sineInt i ∧ sineInt i ≤ 32512 := by decide +kernel

/-- What holds of the first quarter, and is kept when the half turn is mirrored and when a half turn is added, holds of every
index: the circle is four copies of its first quarter. -/
theorem quarterTurn_induction {P : Nat → Prop} (quarter : ∀ i ≤ 256, P i) (mirror : ∀ i ≤ 256, P i → P (512 - i))
    (half : ∀ i < 512, P i → P (i + 512)) : ∀ i < 1024, P i := by
  have firstHalf : ∀ i < 512, P i := fun i hi => by
    obtain h | h := le_total i 256
    · exact quarter i h
    · simpa [Nat.sub_sub_self hi.le] using mirror (512 - i) (by omega) (quarter _ (by omega))
  intro i hi
  obtain h | h := lt_or_ge i 512
  · exact firstHalf i h
  · simpa [Nat.sub_add_cancel h] using half (i - 512) (by omega) (firstHalf _ (by omega))

/-- R71 (d): the first quarter is in range, mirroring keeps a word, and half a turn negates it. -/
theorem sineInt_range : ∀ i < 1024, -32512 ≤ sineInt i ∧ sineInt i ≤ 32512 := by
  apply quarterTurn_induction
  · intro i hi
    have := sineInt_first_quarter_range i hi
    omega
  · intro i hi h
    rwa [sineInt_halfTurn_sub i (by omega)]
  · intro i hi h
    rw [sineInt_add_halfTurn i hi]
    omega

/-- R71 (e): the words of the second half cancel those of the first. -/
theorem sineInt_sum : ∑ i ∈ Finset.range 1024, sineInt i = 0 := by
  have hcancel : ∑ i ∈ Finset.range 512, sineInt (512 + i) = -∑ i ∈ Finset.range 512, sineInt i := by
    rw [← Finset.sum_neg_distrib]
    refine Finset.sum_congr rfl fun i hi => ?_
    rw [Nat.add_comm, sineInt_add_halfTurn i (Finset.mem_range.mp hi)]
  rw [show 1024 = 512 + 512 from rfl, Finset.sum_range_add, hcancel, add_neg_cancel]

/-- Settles O43: the quarter points and the first quarter are read off the listing, the rest follows by symmetry. -/
theorem sineRomSymmetries : Obligations.SineRomSymmetries :=
  ⟨by decide, by decide, by decide, by decide, sineInt_add_halfTurn, sineInt_halfTurn_sub, sineInt_range, sineInt_sum⟩

/-- Every word of the listing fits in an `s16`, so the ROM holds it unchanged. -/
theorem sineRom_toInt {i : Nat} (hi : i < 1024) : (sineRom (BitVec.ofNat 10 i)).toInt = sineInt i := by
  have hrange := sineInt_range i hi
  rw [sineRom, BitVec.toNat_ofNat, Nat.mod_eq_of_lt hi, BitVec.toInt_ofInt_eq_self (by decide)] <;> omega

end Sys2Proof.Machine

/-! ## Proofs of the sine ROM family: the listing is the rounded sine (R70)

One table step is a rotation of the circle by `π / 512`. A Gaussian integer over `2 ^ 40` stands for it; its powers, computed
exactly, stand for the table's angles, with an error that grows by at most `10 ^ -12` per step. So each word of the first quarter
is compared with an integer, and the other three quarters follow by symmetry. -/

namespace Sys2Proof.Machine

/-- `2 ^ 40` times the point of the unit circle one table step from 1, both parts rounded down. -/
def romTurn : GaussianInt := ⟨1099490929780, 6746476518⟩

/-- The rational point of the unit disc that `romTurn` stands for. -/
noncomputable def turnPoint : ℂ := romTurn.toComplex / 2 ^ 40

theorem turnPoint_re : turnPoint.re = 1099490929780 / 2 ^ 40 := by
  norm_num [turnPoint, romTurn, GaussianInt.toComplex_def, Complex.div_re]

theorem turnPoint_im : turnPoint.im = 6746476518 / 2 ^ 40 := by
  norm_num [turnPoint, romTurn, GaussianInt.toComplex_def, Complex.div_im]

theorem turnPoint_pow_im (k : Nat) : (turnPoint ^ k).im = (romTurn ^ k).im / 2 ^ (40 * k) := by
  have hscale : ((2 : ℂ) ^ 40) ^ k = ((2 ^ (40 * k) : ℝ) : ℂ) := by push_cast; rw [pow_mul]
  rw [turnPoint, div_pow, ← map_pow, hscale, Complex.div_ofReal_im, GaussianInt.intCast_im]

theorem norm_turnPoint_le_one : ‖turnPoint‖ ≤ 1 := by
  rw [← sq_le_one_iff₀ (norm_nonneg _), Complex.sq_norm, Complex.normSq_apply, turnPoint_re, turnPoint_im]
  norm_num

/-- The sine at a real number, from a rational `t` near it. -/
theorem abs_sin_sub_cubic_le (x : ℝ) {t : ℝ} (ht : |t| ≤ 1) :
    |Real.sin x - (t - t ^ 3 / 6)| ≤ |x - t| + |t| ^ 5 / 100 :=
  calc |Real.sin x - (t - t ^ 3 / 6)| ≤ |Real.sin x - Real.sin t| + |Real.sin t - (t - t ^ 3 / 6)| := abs_sub_le _ _ _
    _ ≤ |x - t| + |t| ^ 5 / 100 := add_le_add (Real.abs_sin_sub_sin_le x t) (Real.sin_bound ht)

/-- The first twenty decimals of `π`. -/
noncomputable def piApprox : ℝ := 3.14159265358979323846

theorem abs_pi_div_sub_le {n : ℝ} (hn : 1 ≤ n) : |Real.pi / n - piApprox / n| ≤ 1 / 10 ^ 20 := by
  have hpi : |Real.pi - piApprox| ≤ 1 / 10 ^ 20 := by
    have hlower := Real.pi_gt_d20
    have hupper := Real.pi_lt_d20
    rw [piApprox, abs_le]
    constructor <;> linarith
  rw [← sub_div, abs_div, abs_of_pos (by linarith : 0 < n)]
  exact (div_le_self (abs_nonneg _) hn).trans hpi

/-- The sine of `π / n`, from the cubic at the decimals of `π`. -/
theorem abs_sin_pi_div_sub_le {n : ℝ} (hn : 4 ≤ n) :
    |Real.sin (Real.pi / n) - (piApprox / n - (piApprox / n) ^ 3 / 6)| ≤ 1 / 10 ^ 20 + (piApprox / n) ^ 5 / 100 := by
  have hpos : 0 ≤ piApprox / n := div_nonneg (by norm_num [piApprox]) (by linarith)
  have hle : |piApprox / n| ≤ 1 := by
    rw [abs_of_nonneg hpos, div_le_one (by linarith)]
    exact le_trans (by norm_num [piApprox]) hn
  have h := abs_sin_sub_cubic_le (Real.pi / n) hle
  rw [abs_of_nonneg hpos] at h
  exact h.trans (by gcongr; exact abs_pi_div_sub_le (by linarith))

theorem abs_sin_turn_sub_le : |Real.sin (Real.pi / 512) - turnPoint.im| ≤ 1 / 2 / 10 ^ 12 := by
  have h := abs_sin_pi_div_sub_le (n := 512) (by norm_num)
  rw [turnPoint_im]
  norm_num [piApprox, abs_le] at h ⊢
  constructor <;> linarith

/-- The cosine from the sine of the half angle. -/
theorem abs_cos_turn_sub_le : |Real.cos (Real.pi / 512) - turnPoint.re| ≤ 1 / 2 / 10 ^ 12 := by
  have h := abs_sin_pi_div_sub_le (n := 1024) (by norm_num)
  have hcos : Real.cos (Real.pi / 512) = 1 - 2 * Real.sin (Real.pi / 1024) ^ 2 := by
    rw [← Real.cos_two_mul_eq_one_sub]
    congr 1
    ring
  rw [hcos, turnPoint_re]
  norm_num [piApprox, abs_le] at h ⊢
  constructor <;> nlinarith

/-- The point of the unit circle one table step from 1. -/
noncomputable def stepPoint : ℂ := Complex.exp ((Real.pi / 512 : ℝ) * Complex.I)

theorem norm_stepPoint : ‖stepPoint‖ = 1 := Complex.norm_exp_ofReal_mul_I _

theorem stepPoint_pow_im (k : Nat) : (stepPoint ^ k).im = Real.sin (2 * Real.pi * k / 1024) := by
  rw [stepPoint, ← Complex.exp_nat_mul, ← mul_assoc, ← Complex.ofReal_natCast, ← Complex.ofReal_mul,
    Complex.exp_ofReal_mul_I_im]
  congr 1
  ring

theorem norm_stepPoint_sub_turnPoint_le : ‖stepPoint - turnPoint‖ ≤ 1 / 10 ^ 12 := by
  refine (Complex.norm_le_abs_re_add_abs_im _).trans ?_
  rw [Complex.sub_re, Complex.sub_im, stepPoint, Complex.exp_ofReal_mul_I_re, Complex.exp_ofReal_mul_I_im]
  linarith [abs_sin_turn_sub_le, abs_cos_turn_sub_le]

/-- In the unit disc the error of a power grows by at most the error of its base per factor. -/
theorem norm_pow_sub_pow_le {z u : ℂ} (hz : ‖z‖ ≤ 1) (hu : ‖u‖ ≤ 1) (k : Nat) : ‖z ^ k - u ^ k‖ ≤ k * ‖z - u‖ := by
  induction k with
  | zero => simp
  | succ k ih =>
    calc ‖z ^ (k + 1) - u ^ (k + 1)‖ = ‖z ^ k * (z - u) + (z ^ k - u ^ k) * u‖ := by congr 1; ring
      _ ≤ ‖z‖ ^ k * ‖z - u‖ + ‖z ^ k - u ^ k‖ * ‖u‖ := by
        rw [← norm_pow, ← norm_mul, ← norm_mul]
        exact norm_add_le _ _
      _ ≤ 1 * ‖z - u‖ + k * ‖z - u‖ * 1 := by gcongr; exact pow_le_one₀ (norm_nonneg z) hz
      _ = (k + 1 : Nat) * ‖z - u‖ := by push_cast; ring

/-- The sine of `k` table steps, from the `k`-th power of `romTurn`. -/
theorem abs_sin_sub_romTurn_pow_le (k : Nat) :
    |Real.sin (2 * Real.pi * k / 1024) - (romTurn ^ k).im / 2 ^ (40 * k)| ≤ k / 10 ^ 12 := by
  rw [← stepPoint_pow_im, ← turnPoint_pow_im, ← Complex.sub_im]
  calc |(stepPoint ^ k - turnPoint ^ k).im| ≤ ‖stepPoint ^ k - turnPoint ^ k‖ := Complex.abs_im_le_norm _
    _ ≤ k * ‖stepPoint - turnPoint‖ := norm_pow_sub_pow_le norm_stepPoint.le norm_turnPoint_le_one k
    _ ≤ k * (1 / 10 ^ 12) := by gcongr; exact norm_stepPoint_sub_turnPoint_le
    _ = k / 10 ^ 12 := mul_one_div _ _

/-- Each word of the first quarter lies nearer to the computed sine than one half, by a margin of 1/20000. -/
theorem sineInt_near_romTurn_pow : ∀ k ≤ 256,
    20000 * |sineInt k * 2 ^ (40 * k) - 32512 * (romTurn ^ k).im| ≤ 9999 * 2 ^ (40 * k) := by decide +kernel

/-- R70 for index `i`: the word differs from the real sine value by less than one half. -/
def NearestSine (i : Nat) : Prop := |(sineInt i : ℝ) - 32512 * Real.sin (2 * Real.pi * i / 1024)| < 1 / 2

/-- The margin of 1/20000 covers the error of 256 steps. -/
theorem nearestSine_of_quarter (i : Nat) (hi : i ≤ 256) : NearestSine i := by
  have hscale : (0 : ℝ) < 2 ^ (40 * i) := by positivity
  have hword : |(sineInt i : ℝ) - 32512 * ((romTurn ^ i).im / 2 ^ (40 * i))| ≤ 9999 / 20000 := by
    have h : (20000 * |sineInt i * 2 ^ (40 * i) - 32512 * (romTurn ^ i).im| : ℝ) ≤ 9999 * 2 ^ (40 * i) := by
      exact_mod_cast sineInt_near_romTurn_pow i hi
    rw [← mul_div_assoc, sub_div' hscale.ne', abs_div, abs_of_pos hscale, div_le_iff₀ hscale]
    push_cast at h
    linarith
  have hsine := abs_sin_sub_romTurn_pow_le i
  have hi' : (i : ℝ) ≤ 256 := by exact_mod_cast hi
  rw [NearestSine, abs_lt]
  rw [abs_le] at hword hsine
  constructor <;> linarith

/-- The sine has the two symmetries of the listing (R71 (c)). -/
theorem sin_halfTurn_sub {i : Nat} (hi : i ≤ 512) :
    Real.sin (2 * Real.pi * (512 - i : Nat) / 1024) = Real.sin (2 * Real.pi * i / 1024) := by
  rw [← Real.sin_pi_sub]
  congr 1
  push_cast [hi]
  ring

theorem sin_add_halfTurn (i : Nat) :
    Real.sin (2 * Real.pi * (i + 512 : Nat) / 1024) = -Real.sin (2 * Real.pi * i / 1024) := by
  rw [← Real.sin_add_pi]
  congr 1
  push_cast
  ring

theorem NearestSine.halfTurn_sub {i : Nat} (hi : i ≤ 512) (h : NearestSine i) : NearestSine (512 - i) := by
  rwa [NearestSine, sineInt_halfTurn_sub i hi, sin_halfTurn_sub hi]

theorem NearestSine.add_halfTurn {i : Nat} (hi : i < 512) (h : NearestSine i) : NearestSine (i + 512) := by
  rw [NearestSine, sineInt_add_halfTurn i hi, sin_add_halfTurn, Int.cast_neg, mul_neg, neg_sub_neg, abs_sub_comm]
  exact h

theorem nearestSine : ∀ i < 1024, NearestSine i :=
  quarterTurn_induction nearestSine_of_quarter (fun _ hi h => h.halfTurn_sub (hi.trans (by decide)))
    (fun _ hi h => h.add_halfTurn hi)

/-- Settles O42: the first quarter is compared with the powers of `romTurn`, the other three follow by symmetry. -/
theorem sineRomIsTheNearestInteger : Obligations.SineRomIsTheNearestInteger := by
  intro i hi
  rw [sineRom_toInt hi]
  exact nearestSine i hi

end Sys2Proof.Machine

/-! ## Proofs of the encoding family: the fields of a word (R81) -/

namespace Sys2Proof

theorem Fields.eq_mk_iff {f : Fields} {op rsv : BitVec 4} {reg : BitVec 8} {data : Word} :
    f = ⟨op, rsv, reg, data⟩ ↔ f.op = op ∧ f.rsv = rsv ∧ f.reg = reg ∧ f.data = data := by
  cases f
  simp only [Fields.mk.injEq]

theorem wordOf_eq_iff {f : Fields} {w : Cmd} : wordOf f = w ↔ fieldsOf w = f :=
  ⟨fun h => by rw [← h, fieldsOf_wordOf], fun h => by rw [← h, wordOf_fieldsOf]⟩

/-- R81's formula. -/
theorem wordOf_toNat_eq_or (f : Fields) :
    (wordOf f).toNat = (f.op.toNat <<< 76) ||| (f.rsv.toNat <<< 72) ||| (f.reg.toNat <<< 64) ||| f.data.toNat := by
  simp only [wordOf, BitVec.toNat_cast, BitVec.toNat_append, Nat.shiftLeft_or_distrib, ← Nat.shiftLeft_add]

/-- Settles O3: the lemmas on each field and on the assembled word. -/
theorem commandWordFields : Obligations.CommandWordFields :=
  ⟨fun w => ⟨fieldsOf_op w, fieldsOf_rsv w, fieldsOf_reg w, fieldsOf_data w⟩, wordOf_toNat_eq_or⟩

/-- AND of two words is AND field by field. -/
theorem fieldsOf_and (w v : Cmd) : fieldsOf (w &&& v) =
    ⟨(fieldsOf w).op &&& (fieldsOf v).op, (fieldsOf w).rsv &&& (fieldsOf v).rsv,
      (fieldsOf w).reg &&& (fieldsOf v).reg, (fieldsOf w).data &&& (fieldsOf v).data⟩ := by
  simp only [fieldsOf, BitVec.extractLsb'_and]

/-! ## Proofs of the encoding family: decode and encode (R83 to R93) -/

/-- FILL's `data` (R91). -/
theorem eq_setWidth_iff {count : BitVec 32} {data : Word} :
    data = count.setWidth 64 ↔ data.extractLsb' 32 32 = 0 ∧ data.extractLsb' 0 32 = count := by
  have := count.isLt
  have := data.isLt
  simp only [← BitVec.toNat_inj, BitVec.toNat_setWidth, BitVec.extractLsb'_toNat, Nat.shiftRight_eq_div_pow,
    BitVec.ofNat_eq_ofNat, BitVec.toNat_ofNat]
  omega

theorem needZero_eq_ok_iff {reg : BitVec 8} {data : Word} {i j : Instr} :
    needZero reg data i = .ok j ↔ reg = 0 ∧ data = 0 ∧ i = j := by
  unfold needZero
  split_ifs with hreg hdata <;> simp_all

/-- The decoder on FILL's opcode (R91). -/
theorem decodeFields_fill_eq_ok_iff {reg : BitVec 8} {data : Word} {i : Instr} :
    decodeFields ⟨6, 0, reg, data⟩ = .ok i ↔
      reg = 0 ∧ data.extractLsb' 32 32 = 0 ∧ .fill (data.extractLsb' 0 32) = i := by
  rw [decodeFields, if_neg (not_not.2 rfl)]
  simp only [BitVec.ofNat_eq_ofNat, BitVec.reduceToNat]
  split_ifs with hreg hhigh <;> simp_all

/-- R93. -/
theorem decodeFields_reserved {f : Fields} (hrsv : f.rsv = 0) (hop : 7 ≤ f.op.toNat) :
    decodeFields f = .error .reservedOpcode := by
  rw [decodeFields, if_neg (not_not.2 hrsv)]
  split
  case h_8 => rfl
  all_goals omega

theorem decodeFields_rsv {f : Fields} (hrsv : f.rsv ≠ 0) : decodeFields f = .error .rsvNotZero := if_pos hrsv

/-- R83, R93: the opcodes with a row, and the reserved ones. -/
theorem opcode_cases : ∀ op : BitVec 4,
    op = 0 ∨ op = 1 ∨ op = 2 ∨ op = 3 ∨ op = 4 ∨ op = 5 ∨ op = 6 ∨ 7 ≤ op.toNat := by decide

theorem decodeFields_fieldsOfInstr (i : Instr) : decodeFields (fieldsOfInstr i) = .ok i := by
  cases i with
  | fill count =>
    obtain ⟨hhigh, hlow⟩ := eq_setWidth_iff.1 (rfl : count.setWidth 64 = count.setWidth 64)
    exact decodeFields_fill_eq_ok_iff.2 ⟨rfl, hhigh, congrArg _ hlow⟩
  | _ => rfl

/-- Row by row: the fields that pass the row's checks are those of the command it answers. -/
theorem eq_fieldsOfInstr_of_decodeFields {f : Fields} {i : Instr} (h : decodeFields f = .ok i) : f = fieldsOfInstr i := by
  by_cases hrsv : f.rsv = 0
  · obtain ⟨op, rsv, reg, data⟩ := f
    obtain rfl : rsv = 0 := hrsv
    obtain rfl | rfl | rfl | rfl | rfl | rfl | rfl | hop := opcode_cases op
    · obtain ⟨rfl, rfl, rfl⟩ := needZero_eq_ok_iff.1 h
      rfl
    · cases h
      rfl
    · obtain ⟨-, rfl, rfl⟩ := (needZero_eq_ok_iff (reg := 0)).1 h
      rfl
    · obtain ⟨rfl, -, rfl⟩ := (needZero_eq_ok_iff (data := 0)).1 h
      rfl
    · obtain ⟨rfl, -, rfl⟩ := (needZero_eq_ok_iff (data := 0)).1 h
      rfl
    · obtain ⟨rfl, rfl, rfl⟩ := needZero_eq_ok_iff.1 h
      rfl
    · obtain ⟨rfl, hhigh, rfl⟩ := decodeFields_fill_eq_ok_iff.1 h
      exact congrArg (Fields.mk 6 0 0) (eq_setWidth_iff.2 ⟨hhigh, rfl⟩)
    · cases (decodeFields_reserved rfl hop).symm.trans h
  · cases (decodeFields_rsv hrsv).symm.trans h

/-- A word stands for a command exactly when its fields are the command's. -/
theorem decode_eq_ok_iff {w : Cmd} {i : Instr} : decode w = .ok i ↔ fieldsOf w = fieldsOfInstr i :=
  ⟨eq_fieldsOfInstr_of_decodeFields, fun h => by rw [decode, h, decodeFields_fieldsOfInstr]⟩

/-- Settles O1: the fields of the word that a command encodes to are the command's. -/
theorem encodeAndDecodeAreInverse : Obligations.EncodeAndDecodeAreInverse :=
  ⟨fun i => decode_eq_ok_iff.2 (fieldsOf_wordOf (fieldsOfInstr i)),
    fun _ _ h => wordOf_eq_iff.2 (decode_eq_ok_iff.1 h)⟩

/-- Settles O4: the decoder evaluates. -/
theorem workedEncodingsDecode : Obligations.WorkedEncodingsDecode := by
  unfold Obligations.WorkedEncodingsDecode
  decide

/-! ### The words of each row, field by field -/

section
variable {w : Cmd}

theorem decode_nop_iff : decode w = .ok .nop ↔
    (fieldsOf w).op = 0 ∧ (fieldsOf w).rsv = 0 ∧ (fieldsOf w).reg = 0 ∧ (fieldsOf w).data = 0 := by
  simp only [decode_eq_ok_iff, fieldsOfInstr, Fields.eq_mk_iff]

theorem exists_decode_wr_iff : (∃ reg data, decode w = .ok (.wr reg data)) ↔ (fieldsOf w).op = 1 ∧ (fieldsOf w).rsv = 0 := by
  simp [decode_eq_ok_iff, fieldsOfInstr, Fields.eq_mk_iff]

theorem exists_decode_rd_iff : (∃ reg, decode w = .ok (.rd reg)) ↔
    (fieldsOf w).op = 2 ∧ (fieldsOf w).rsv = 0 ∧ (fieldsOf w).data = 0 := by
  simp [decode_eq_ok_iff, fieldsOfInstr, Fields.eq_mk_iff]

theorem exists_decode_pushf_iff : (∃ data, decode w = .ok (.pushf data)) ↔
    (fieldsOf w).op = 3 ∧ (fieldsOf w).rsv = 0 ∧ (fieldsOf w).reg = 0 := by
  simp [decode_eq_ok_iff, fieldsOfInstr, Fields.eq_mk_iff]

theorem exists_decode_pushs_iff : (∃ data, decode w = .ok (.pushs data)) ↔
    (fieldsOf w).op = 4 ∧ (fieldsOf w).rsv = 0 ∧ (fieldsOf w).reg = 0 := by
  simp [decode_eq_ok_iff, fieldsOfInstr, Fields.eq_mk_iff]

theorem decode_init_iff : decode w = .ok .init ↔
    (fieldsOf w).op = 5 ∧ (fieldsOf w).rsv = 0 ∧ (fieldsOf w).reg = 0 ∧ (fieldsOf w).data = 0 := by
  simp only [decode_eq_ok_iff, fieldsOfInstr, Fields.eq_mk_iff]

theorem exists_decode_fill_iff : (∃ count, decode w = .ok (.fill count)) ↔
    (fieldsOf w).op = 6 ∧ (fieldsOf w).rsv = 0 ∧ (fieldsOf w).reg = 0 ∧ (fieldsOf w).data.extractLsb' 32 32 = 0 := by
  simp [decode_eq_ok_iff, fieldsOfInstr, Fields.eq_mk_iff, eq_setWidth_iff]

/-- A row's mask covers `op` and `rsv` and what must be 0 of `reg` and `data`; its match is the opcode. -/
theorem and_eq_iff_fieldsOf {mask matching : Cmd} {op : BitVec 4} {reg : BitVec 8} {data : Word}
    (hmask : fieldsOf mask = ⟨BitVec.allOnes 4, BitVec.allOnes 4, reg, data⟩) (hmatch : fieldsOf matching = ⟨op, 0, 0, 0⟩) :
    w &&& mask = matching ↔
      (fieldsOf w).op = op ∧ (fieldsOf w).rsv = 0 ∧ (fieldsOf w).reg &&& reg = 0 ∧ (fieldsOf w).data &&& data = 0 := by
  rw [← wordOf_fieldsOf matching, eq_comm, wordOf_eq_iff, hmatch, fieldsOf_and, hmask]
  simp only [BitVec.and_allOnes, Fields.eq_mk_iff]

/-- The high half of `data`, as FILL's mask covers it. -/
theorem and_highHalf_eq_zero_iff {data : Word} : data &&& 0xFFFFFFFF00000000 = 0 ↔ data.extractLsb' 32 32 = 0 := by
  have hdata : data = data.extractLsb' 32 32 ++ data.extractLsb' 0 32 :=
    (BitVec.extractLsb'_append_extractLsb' (w := 32) (len := 32)).symm
  calc data &&& 0xFFFFFFFF00000000 = 0
      ↔ data.extractLsb' 32 32 ++ data.extractLsb' 0 32 &&& BitVec.allOnes 32 ++ 0#32 = 0#32 ++ 0#32 := by
        rw [← hdata]
        rfl
    _ ↔ data.extractLsb' 32 32 = 0 := by
      rw [BitVec.and_append, BitVec.and_allOnes, BitVec.and_zero, BitVec.append_left_inj]
      rfl

end

/-- Settles O2: each row's mask and match ask of the fields what the decoder asks. -/
theorem wordSelectsRowByMaskAndMatch : Obligations.WordSelectsRowByMaskAndMatch := by
  intro w
  refine ⟨?_, ?_, ?_, ?_, ?_, ?_, ?_⟩
  · rw [decode_nop_iff, and_eq_iff_fieldsOf (op := 0) (reg := BitVec.allOnes 8) (data := BitVec.allOnes 64)
      (by decide) (by decide)]
    simp only [BitVec.and_allOnes]
  · rw [exists_decode_wr_iff, and_eq_iff_fieldsOf (op := 1) (reg := 0) (data := 0) (by decide) (by decide)]
    simp only [BitVec.ofNat_eq_ofNat, BitVec.and_zero, and_true]
  · rw [exists_decode_rd_iff, and_eq_iff_fieldsOf (op := 2) (reg := 0) (data := BitVec.allOnes 64)
      (by decide) (by decide)]
    simp only [BitVec.and_allOnes, BitVec.ofNat_eq_ofNat, BitVec.and_zero, true_and]
  · rw [exists_decode_pushf_iff, and_eq_iff_fieldsOf (op := 3) (reg := BitVec.allOnes 8) (data := 0) (by decide) (by decide)]
    simp only [BitVec.and_allOnes, BitVec.ofNat_eq_ofNat, BitVec.and_zero, and_true]
  · rw [exists_decode_pushs_iff, and_eq_iff_fieldsOf (op := 4) (reg := BitVec.allOnes 8) (data := 0) (by decide) (by decide)]
    simp only [BitVec.and_allOnes, BitVec.ofNat_eq_ofNat, BitVec.and_zero, and_true]
  · rw [decode_init_iff, and_eq_iff_fieldsOf (op := 5) (reg := BitVec.allOnes 8) (data := BitVec.allOnes 64)
      (by decide) (by decide)]
    simp only [BitVec.and_allOnes]
  · rw [exists_decode_fill_iff, and_eq_iff_fieldsOf (op := 6) (reg := BitVec.allOnes 8) (data := 0xFFFFFFFF00000000)
      (by decide) (by decide), and_highHalf_eq_zero_iff]
    simp only [BitVec.and_allOnes]

/-! ### The legal words (R92) -/

/-- The fields of a command are well formed. -/
theorem fieldsOfInstr_wellFormed (i : Instr) : (fieldsOfInstr i).wellFormed = true := by
  cases i with
  | fill count => simp [fieldsOfInstr, Fields.wellFormed, (eq_setWidth_iff.1 (Eq.refl (count.setWidth 64))).1]
  | _ => simp [fieldsOfInstr, Fields.wellFormed]

/-- The decoder accepts exactly the words that R85 to R91 allow. -/
theorem exists_decodeFields_iff_wellFormed {f : Fields} : (∃ i, decodeFields f = .ok i) ↔ f.wellFormed = true := by
  constructor
  · rintro ⟨i, h⟩
    rw [eq_fieldsOfInstr_of_decodeFields h]
    exact fieldsOfInstr_wellFormed i
  · obtain ⟨op, rsv, reg, data⟩ := f
    simp only [Fields.wellFormed, Bool.and_eq_true, Bool.or_eq_true, beq_iff_eq]
    rintro ⟨rfl, (((((⟨⟨rfl, rfl⟩, rfl⟩ | rfl) | ⟨rfl, rfl⟩) | ⟨rfl, rfl⟩) | ⟨rfl, rfl⟩) | ⟨⟨rfl, rfl⟩, rfl⟩) |
      ⟨⟨rfl, rfl⟩, hhigh⟩⟩
    · exact ⟨.nop, rfl⟩
    · exact ⟨.wr reg data, rfl⟩
    · exact ⟨.rd reg, rfl⟩
    · exact ⟨.pushf data, rfl⟩
    · exact ⟨.pushs data, rfl⟩
    · exact ⟨.init, rfl⟩
    · exact ⟨.fill _, decodeFields_fill_eq_ok_iff.2 ⟨rfl, hhigh, rfl⟩⟩

/-- The high half of `data` is 0 for a count of 32 bits, and for no wider one. -/
theorem highHalf_eq_zero_iff {data : Word} : data.extractLsb' 32 32 = 0#32 ↔ data.toNat < 2 ^ 32 := by
  have := data.isLt
  simp only [← BitVec.toNat_inj, BitVec.extractLsb'_toNat, Nat.shiftRight_eq_div_pow, BitVec.toNat_ofNat]
  omega

/-- R92's list, opcode by opcode. -/
theorem not_wellFormed_iff {f : Fields} : ¬ f.wellFormed = true ↔
    7 ≤ f.op.toNat ∨ f.rsv ≠ 0 ∨ ((f.op = 0 ∨ f.op = 5) ∧ (f.reg ≠ 0 ∨ f.data ≠ 0)) ∨ (f.op = 2 ∧ f.data ≠ 0) ∨
      ((f.op = 3 ∨ f.op = 4 ∨ f.op = 6) ∧ f.reg ≠ 0) ∨ (f.op = 6 ∧ 2 ^ 32 ≤ f.data.toNat) := by
  by_cases hrsv : f.rsv = 0
  · obtain hop | hop | hop | hop | hop | hop | hop | hop := opcode_cases f.op
    case inr.inr.inr.inr.inr.inr.inr =>
      have hrefused : ¬ f.wellFormed = true := fun h => by
        obtain ⟨i, hi⟩ := exists_decodeFields_iff_wellFormed.2 h
        cases (decodeFields_reserved hrsv hop).symm.trans hi
      exact iff_of_true hrefused (.inl hop)
    all_goals simp [Fields.wellFormed, hop, hrsv, highHalf_eq_zero_iff, imp_iff_not_or]
  · have hrefused : ¬ f.wellFormed = true := by
      rw [Fields.wellFormed, beq_false_of_ne hrsv, Bool.false_and]
      decide
    exact iff_of_true hrefused (.inr (.inl hrsv))

namespace Machine

/-- Settles O7: R92's list is what is not well formed, and a word that decodes to nothing is rejected. -/
theorem illegalWordIsRejected : Obligations.IllegalWordIsRejected := by
  refine ⟨fun w => ?_, fun s t rest hrst hfree hport hillegal => ?_⟩
  · rw [← not_wellFormed_iff, ← exists_decodeFields_iff_wellFormed, not_exists]
    rfl
  · cases hdecode : decode t.word with
    | ok i => exact absurd hdecode (hillegal i)
    | error e =>
      rw [step_of_illegal hrst hfree hport hdecode]
      rfl

/-! ## Proofs of the encoding family: the pseudo-commands (R96, R113) -/

theorem decDigit_digitChar : ∀ d < 10, decDigit (Nat.digitChar d) = some d := by decide

theorem digitChar_ne_space : ∀ d < 10, Nat.digitChar d ≠ ' ' := by decide

/-- LOADSYMS of a text of digits is one PUSHS per digit. -/
theorem loadSymsCommands_digits {digits : List Nat} (h : ∀ d ∈ digits, d < 10) :
    loadSymsCommands (digits.map Nat.digitChar) = some (digits.map fun d => .pushs (BitVec.ofNat 64 d)) := by
  induction digits with
  | nil => rfl
  | cons d ds ih =>
    obtain ⟨hd, hds⟩ := List.forall_mem_cons.1 h
    simp only [List.map_cons, loadSymsCommands, if_neg (digitChar_ne_space d hd), decDigit_digitChar d hd, ih hds]

theorem hzToFreq_of_pos {fs : ℚ} (hfs : 0 < fs) (hz : ℚ) : hzToFreq fs hz = some (freqWord fs hz) := if_neg (not_le.2 hfs)

theorem mapM_expand_pushHz {fs : ℚ} (hfs : 0 < fs) (freqs : List ℚ) :
    (freqs.map (Pseudo.pushHz fs)).mapM expand = some (freqs.map fun hz => [.pushf (freqWord fs hz)]) := by
  induction freqs with
  | nil => rfl
  | cons hz rest ih => simp [ih, expand, hzToFreq_of_pos hfs]

theorem patternSym_eq_ofNat (k : Nat) : BitVec.ofNat 64 ([3, 1, 0, 2].getD (k % 4) 0) = patternSym k :=
  (List.getD_map [3, 1, 0, 2] 0 (BitVec.ofNat 64)).symm

theorem patternDigit_lt_ten (k : Nat) : [3, 1, 0, 2].getD (k % 4) 0 < 10 := by
  have hdigits : ∀ j < 4, [3, 1, 0, 2].getD j 0 < 10 := by decide
  exact hdigits _ (Nat.mod_lt _ (by decide))

/-- LOADPAT is the LOADSYMS of the pattern. -/
theorem expand_loadPat : expand .loadPat =
    expand (.loadSyms ((List.range 162).map fun k => Nat.digitChar ([3, 1, 0, 2].getD (k % 4) 0))) := by
  have h := loadSymsCommands_digits (digits := (List.range 162).map fun k => [3, 1, 0, 2].getD (k % 4) 0)
    (by simpa using fun k _ => patternDigit_lt_ten k)
  simp only [List.map_map, Function.comp_def, patternSym_eq_ofNat] at h
  exact h.symm

/-- Settles O60: every pseudo-command of the sequence has an expansion when the rate has a meaning, and SETRATE has none
otherwise. -/
theorem initializeIsThePseudoCommands : Obligations.InitializeIsThePseudoCommands := by
  refine ⟨fun fs deg1 deg2 swap freqs digits hdigits => ?_, expand_loadPat⟩
  obtain hfs | hfs := le_or_gt fs 0
  · simp [initializeCommands, expand, hzToFreq, hfs]
  · have hsequence : ([Pseudo.setRate fs, Pseudo.setDeg1 deg1, Pseudo.setDeg2 deg2, Pseudo.setSwap swap] ++
        freqs.map (Pseudo.pushHz fs) ++ [Pseudo.loadSyms (digits.map Nat.digitChar)]).mapM expand =
        some ([[.wr 0x10 (freqWord fs symbolRate)], [.wr 0x11 (degToShift deg1)], [.wr 0x12 (degToShift deg2)],
          [.wr 0x13 (if swap then 1 else 0)]] ++ (freqs.map fun hz => [.pushf (freqWord fs hz)]) ++
          [digits.map fun d => .pushs (BitVec.ofNat 64 d)]) := by
      simp [expand, hzToFreq_of_pos hfs, mapM_expand_pushHz hfs, loadSymsCommands_digits hdigits]
    rw [hsequence, initializeCommands, if_neg (not_le.2 hfs)]
    simp [configCommands, ← List.flatMap_def, ← List.map_eq_flatMap, Function.comp_def]

end Machine
end Sys2Proof

/-! ## Proofs of the configuration family: what each command does (R101 to R106) -/

namespace Sys2Proof.Machine

/-- Settles O11: the fields of a word that decodes to a command are the command's, and only NOP's opcode is 0. -/
theorem nopOnlyResponds : Obligations.NopOnlyResponds := by
  refine ⟨fun _ => rfl, workedEncodingsDecode.1, fun w hop hw i hdecode => ?_⟩
  have hfields := decode_eq_ok_iff.1 hdecode
  cases i with
  | nop => exact hw (wordOf_eq_iff.2 hfields).symm
  | _ => exact absurd (hop.symm.trans (congrArg Fields.op hfields)) (by simp [fieldsOfInstr])

/-! ### WR and RD (R40, R102, R103) -/

/-- No register but the four of R102 takes a write. -/
theorem writeReg_regAt_badAddr {reg : BitVec 8} (hstep : reg ≠ 0x10) (hshift1 : reg ≠ 0x11) (hshift2 : reg ≠ 0x12)
    (hctrl : reg ≠ 0x13) (s : State) (data : Word) : writeReg s data (regAt reg) = .error .badAddr := by
  cases hreg : regAt reg with
  | none => rfl
  | some r =>
    have haddr := regAddr_of_regAt hreg
    cases r with
    | symbolStep => exact absurd haddr.symm hstep
    | shift1 => exact absurd haddr.symm hshift1
    | shift2 => exact absurd haddr.symm hshift2
    | ctrl => exact absurd haddr.symm hctrl
    | _ => rfl

/-- Bit 0 of a CTRL word without reserved bits (R42). -/
theorem getLsbD_zero_of_lt_two {data : Word} (h : data.toNat < 2) : data.getLsbD 0 = decide (data = 1) := by
  have hone : data = 1 ↔ data.toNat = 1 := BitVec.toNat_inj.symm
  simp only [BitVec.getLsbD, Nat.testBit_zero, hone]
  exact decide_eq_decide.2 (by omega)

/-- Settles O12: the lock, then the four registers with W access, then every other address. -/
theorem wrWritesOrIsRejected : Obligations.WrWritesOrIsRejected := by
  intro s reg data
  by_cases hready : s.ready = true
  · rw [if_pos hready]
    exact exec_wr_locked hready reg data
  have hunready : s.ready = false := by simpa using hready
  rw [if_neg hready]
  split_ifs with hstep hshift1 hshift2 hctrl hdata
  · rw [exec_wr_unlocked hunready, hstep]; rfl
  · rw [exec_wr_unlocked hunready, hshift1]; rfl
  · rw [exec_wr_unlocked hunready, hshift2]; rfl
  · rw [hctrl, exec_wr_ctrl hunready, if_neg (not_not.2 ((ctrlReserved_eq_zero data).2 hdata)), getLsbD_zero_of_lt_two hdata]
    rfl
  · rw [hctrl, exec_wr_ctrl hunready, if_pos (mt (ctrlReserved_eq_zero data).1 hdata)]
    rfl
  · rw [exec_wr_unlocked hunready, writeReg_regAt_badAddr hstep hshift1 hshift2 hctrl]
    rfl

/-- RD's value at the addresses of FTAB. -/
theorem readReg_regAt_ftab {reg : BitVec 8} (h : reg.toNat < 16) (s : State) :
    (regAt reg).bind (readReg s) = if reg.toNat < s.freqCount.toNat then s.ftab[reg.toNat]? else none := by
  rw [regAt, dif_pos h, Vector.getElem?_eq_getElem h]
  simp only [Option.bind_some, readReg, ftabRead, dif_pos h]

/-- RD's value at the addresses of STAB. -/
theorem readReg_regAt_stab {reg : BitVec 8} (hlow : 0x40 ≤ reg.toNat) (hhigh : reg.toNat ≤ 0xE1) (s : State) :
    (regAt reg).bind (readReg s) = if reg.toNat - 0x40 < s.symCount.toNat then
      (s.stab[reg.toNat - 0x40]?).map (BitVec.setWidth 64) else none := by
  have h : reg.toNat - 0x40 < 162 := by omega
  rw [regAt, dif_neg (by omega), dif_pos ⟨hlow, h⟩, Vector.getElem?_eq_getElem h]
  simp only [Option.bind_some, readReg, stabRead, dif_pos h, Option.map_some]

/-- Outside the two stores the map is the list of named registers. -/
theorem regAt_eq_namedReg {reg : BitVec 8} (hftab : ¬ reg.toNat < 16) (hstab : ¬ (0x40 ≤ reg.toNat ∧ reg.toNat ≤ 0xE1)) :
    regAt reg = namedReg reg.toNat := by
  rw [regAt, dif_neg hftab, dif_neg (by omega)]

theorem ctrlWord_eq (s : State) : ctrlWord s = if s.swapOnStart then 1 else 0 := by
  rw [ctrlWord]
  cases s.swapOnStart <;> rfl

/-- Settles O13: the register map range by range: FTAB, STAB, then the named registers one by one. -/
theorem rdAnswersTheRegisterMap : Obligations.RdAnswersTheRegisterMap := by
  intro s reg
  rw [exec_rd]
  refine congrArg (fun v : Option Word => Host.Outcome.next (v.elim (reject .badAddr s) (respond · s))) ?_
  by_cases hftab : reg.toNat < 16
  · rw [readReg_regAt_ftab hftab, if_pos hftab]
  by_cases hstab : 0x40 ≤ reg.toNat ∧ reg.toNat ≤ 0xE1
  · rw [readReg_regAt_stab hstab.1 hstab.2]
    simp (disch := omega) only [if_neg]
    simp only [hstab, true_and]
  rw [regAt_eq_namedReg hftab hstab, ← ctrlWord_eq]
  generalize reg.toNat = n at *
  unfold namedReg
  split
  -- No register has this address.
  case h_15 =>
    simp only [imp_false] at *
    simp only [*, if_false]
    exact (if_neg fun ⟨hlow, hhigh, _⟩ => hstab ⟨hlow, hhigh⟩).symm
  all_goals rfl

/-! ### PUSHF and PUSHS (R104, R105) -/

theorem setIfInBounds_eq_dite {α : Type} {n : Nat} (xs : Vector α n) (k : Nat) (v : α) :
    xs.setIfInBounds k v = if h : k < n then xs.set k v h else xs := by
  split
  · ext j hj
    rw [Vector.getElem_setIfInBounds, Vector.getElem_set]
  · exact Vector.setIfInBounds_eq_of_size_le (by omega)

/-- Counting up to the largest value of the width is adding 1 below it. -/
theorem ofNat_min_succ {n : Nat} (c : BitVec n) :
    BitVec.ofNat n (min (c.toNat + 1) (2 ^ n - 1)) = if c = BitVec.allOnes n then BitVec.allOnes n else c + 1 := by
  have hlt := c.isLt
  split_ifs with hmax
  · rw [hmax, BitVec.toNat_allOnes, Nat.min_eq_right (by omega), BitVec.allOnes, BitVec.ofNatLT_eq_ofNat]
  · have hne : c.toNat ≠ 2 ^ n - 1 := fun h => hmax (BitVec.eq_of_toNat_eq (by rw [h, BitVec.toNat_allOnes]))
    rw [Nat.min_eq_left (by omega), BitVec.ofNat_add, BitVec.ofNat_toNat, BitVec.setWidth_eq]
    rfl

theorem countFreq_eq (c : BitVec 5) : countFreq c = if c = 31 then 31 else c + 1 := ofNat_min_succ c

theorem countSym_eq (c : BitVec 8) : countSym c = if c = 255 then 255 else c + 1 := ofNat_min_succ c

/-- PUSHF in READY is locked out (R104). -/
theorem exec_pushf_locked {s : State} (h : s.ready = true) (data : Word) :
    exec (.pushf data) s = .next (reject .locked s) := if_pos h

/-- PUSHS in READY is locked out (R105). -/
theorem exec_pushs_locked {s : State} (h : s.ready = true) (data : Word) :
    exec (.pushs data) s = .next (reject .locked s) := if_pos h

/-- PUSHF before INIT (R104). -/
theorem exec_pushf {s : State} (hready : s.ready = false) (data : Word) : exec (.pushf data) s =
    .next (respond 0 { ftabWrite s.freqCount.toNat data s with freqCount := countFreq s.freqCount }) :=
  if_neg (by simp [hready])

/-- The operand of PUSHS is its low two bits when they are all of it (R82). -/
theorem symbolOperand_of_le {data : Word} (h : data.toNat ≤ 3) : symbolOperand data = some (BitVec.ofNat 2 data.toNat) := by
  rw [symbolOperand, if_neg (by omega), BitVec.extractLsb', Nat.shiftRight_zero]

/-- PUSHS of a symbol before INIT (R105). -/
theorem exec_pushs {s : State} (hready : s.ready = false) {data : Word} (h : data.toNat ≤ 3) : exec (.pushs data) s =
    .next (respond 0 { stabWrite s.symCount.toNat (BitVec.ofNat 2 data.toNat) s with symCount := countSym s.symCount }) := by
  simp only [exec, execPushs, hready, if_neg Bool.false_ne_true, symbolOperand_of_le h]

/-- PUSHS of a larger word before INIT (R105). -/
theorem exec_pushs_badValue {s : State} (hready : s.ready = false) {data : Word} (h : 3 < data.toNat) :
    exec (.pushs data) s = .next (reject .badValue s) := by
  simp only [exec, execPushs, hready, if_neg Bool.false_ne_true, symbolOperand, if_pos h]

/-- Settles O16: the store and the count, each as the statement writes it. -/
theorem pushfAppendsAndCounts : Obligations.PushfAppendsAndCounts := by
  intro s data
  by_cases hready : s.ready = true
  · rw [if_pos hready]
    exact exec_pushf_locked hready data
  · rw [if_neg hready, exec_pushf (by simpa using hready), countFreq_eq, ftabWrite, setIfInBounds_eq_dite]
    rfl

/-- Settles O17: the lock, then the operand's range, then the store and the count. -/
theorem pushsAppendsAndCounts : Obligations.PushsAppendsAndCounts := by
  intro s data
  by_cases hready : s.ready = true
  · rw [if_pos hready]
    exact exec_pushs_locked hready data
  have hunready : s.ready = false := by simpa using hready
  rw [if_neg hready]
  by_cases hdata : 3 < data.toNat
  · rw [if_pos hdata, exec_pushs_badValue hunready hdata]
    rfl
  · rw [if_neg hdata, exec_pushs hunready (by omega), countSym_eq, stabWrite, setIfInBounds_eq_dite]
    rfl

/-! ### INIT (R106) -/

/-- INIT in READY is locked out (R106). -/
theorem exec_init_locked {s : State} (h : s.ready = true) : exec .init s = .next (reject .locked s) := if_pos h

/-- INIT before READY, by the outcome of its checks. -/
theorem exec_init {s : State} (hready : s.ready = false) : exec .init s =
    .next ((initCheck s).elim (respond 0 (initialise s)) (reject · s)) := by
  simp only [exec, execInit, hready, if_neg Bool.false_ne_true]
  cases initCheck s <;> rfl

/-- Settles O18: the lock, then the first check that fails. -/
theorem initChecksThenConstructs : Obligations.InitChecksThenConstructs := by
  intro s
  by_cases hready : s.ready = true
  · rw [if_pos hready]
    exact exec_init_locked hready
  rw [if_neg hready, exec_init (by simpa using hready), initCheck, Config.maxf, Config.nsym]
  split_ifs <;> rfl

/-! ## Proofs of the configuration family: the Initialize sequence (R113) -/

theorem execAll_append {is js : List Instr} {s t : State} (h : execAll is s = .next t) :
    execAll (is ++ js) s = execAll js t := by
  induction is generalizing s with
  | nil => cases h; rfl
  | cons i is ih =>
    obtain ⟨s', hs'⟩ := exec_total i s
    simp only [List.cons_append, execAll, hs'] at h ⊢
    exact ih h

theorem execAll_singleton (i : Instr) (s : State) : execAll [i] s = exec i s := by
  obtain ⟨t, ht⟩ := exec_total i s
  simp only [execAll, ht]

/-! ### The stores after a list of pushes -/

/-- Storing at the saturated count what a list gains at its end; `default` fills the entries that the list does not reach. -/
theorem setIfInBounds_ofFn_getD {α : Type} {n bound : Nat} (hbound : n ≤ bound) (values : List α) (default v : α) :
    (Vector.ofFn fun k : Fin n => values.getD k default).setIfInBounds (min values.length bound) v =
      Vector.ofFn fun k : Fin n => (values ++ [v]).getD k default := by
  ext k hk
  rw [Vector.getElem_setIfInBounds, Vector.getElem_ofFn, Vector.getElem_ofFn]
  obtain hlt | rfl | hgt := lt_trichotomy k values.length
  · rw [if_neg (by omega), List.getD_append _ _ _ _ hlt]
  · rw [if_pos (by omega), List.getD_append_right _ _ _ _ le_rfl, Nat.sub_self]
    rfl
  · rw [if_neg (by omega), List.getD_eq_default _ _ hgt.le, List.getD_eq_default _ _ (by simpa using hgt)]

theorem ofFn_getD_nil {α : Type} (n : Nat) (default : α) :
    (Vector.ofFn fun k : Fin n => ([] : List α).getD k default) = Vector.replicate n default := by
  ext k hk
  simp

theorem ofFn_getD_getElem? {α : Type} {n k : Nat} (hk : k < n) {values : List α} (hlen : k < values.length) (default : α) :
    (Vector.ofFn fun k : Fin n => values.getD k default)[k]? = values[k]? := by
  rw [Vector.getElem?_eq_getElem hk, Vector.getElem_ofFn, List.getD_eq_getElem _ _ hlen, List.getElem?_eq_getElem hlen]

/-- The symbol that PUSHS stores of a data word (R105). -/
def symOf (v : Word) : Sym := BitVec.ofNat 2 v.toNat

theorem symOf_toNat {v : Word} (h : v.toNat ≤ 3) : (symOf v).toNat = v.toNat := by
  rw [symOf, BitVec.toNat_ofNat]
  omega

/-- A core with empty stores after the frequency words and the symbols have been pushed, each answered OK. -/
def pushed (freqs : List Word) (syms : List Sym) (s : State) : State := { s with
  ftab := Vector.ofFn fun k => freqs.getD k 0
  freqCount := BitVec.ofNat 5 (min freqs.length 31)
  stab := Vector.ofFn fun k => syms.getD k 0
  symCount := BitVec.ofNat 8 (min syms.length 255)
  responses := s.responses ++ List.replicate (freqs.length + syms.length) ⟨0, 0⟩ }

section
variable (freqs : List Word) (syms : List Sym) (s : State)

theorem pushed_freqCount : (pushed freqs syms s).freqCount.toNat = min freqs.length 31 :=
  (BitVec.toNat_ofNat _ _).trans (Nat.mod_eq_of_lt (by omega))

theorem pushed_symCount : (pushed freqs syms s).symCount.toNat = min syms.length 255 :=
  (BitVec.toNat_ofNat _ _).trans (Nat.mod_eq_of_lt (by omega))

theorem countFreq_pushed :
    countFreq (pushed freqs syms s).freqCount = BitVec.ofNat 5 (min (freqs.length + 1) 31) := by
  rw [countFreq, pushed_freqCount]
  congr 1
  omega

theorem countSym_pushed :
    countSym (pushed freqs syms s).symCount = BitVec.ofNat 8 (min (syms.length + 1) 255) := by
  rw [countSym, pushed_symCount]
  congr 1
  omega

variable {s} (hready : s.ready = false)
include hready

/-- PUSHF appends to the frequency words (R104). -/
theorem exec_pushf_pushed (w : Word) :
    exec (.pushf w) (pushed freqs syms s) = .next (pushed (freqs ++ [w]) syms s) := by
  rw [exec_pushf (s := pushed freqs syms s) hready, countFreq_pushed, pushed_freqCount]
  simp only [pushed, ftabWrite, respond, setIfInBounds_ofFn_getD (show 16 ≤ 31 by decide), List.length_append,
    List.length_singleton, Nat.add_right_comm _ 1, List.replicate_succ', List.append_assoc]

/-- PUSHS appends to the symbols (R105). -/
theorem exec_pushs_pushed {v : Word} (hv : v.toNat ≤ 3) :
    exec (.pushs v) (pushed freqs syms s) = .next (pushed freqs (syms ++ [symOf v]) s) := by
  rw [exec_pushs (s := pushed freqs syms s) hready hv, countSym_pushed, pushed_symCount]
  simp only [pushed, stabWrite, respond, setIfInBounds_ofFn_getD (show 162 ≤ 255 by decide), List.length_append,
    List.length_singleton, ← Nat.add_assoc, List.replicate_succ', List.append_assoc, symOf]

theorem execAll_pushf_pushed (ws : List Word) :
    execAll (ws.map .pushf) (pushed freqs syms s) = .next (pushed (freqs ++ ws) syms s) := by
  induction ws generalizing freqs with
  | nil => simp only [List.map_nil, List.append_nil, execAll]
  | cons w ws ih => simp only [List.map_cons, execAll, exec_pushf_pushed _ _ hready, ih, List.append_assoc, List.singleton_append]

theorem execAll_pushs_pushed {vs : List Word} (hvs : ∀ v ∈ vs, v.toNat ≤ 3) :
    execAll (vs.map .pushs) (pushed freqs syms s) = .next (pushed freqs (syms ++ vs.map symOf) s) := by
  induction vs generalizing syms with
  | nil => simp only [List.map_nil, List.append_nil, execAll]
  | cons v vs ih =>
    obtain ⟨hv, hvs⟩ := List.forall_mem_cons.1 hvs
    simp only [List.map_cons, execAll, exec_pushs_pushed _ _ hready hv, ih _ hvs, List.append_assoc, List.singleton_append]

end

/-! ### The sequence from reset -/

/-- The core after the four WR of R113 from reset, each answered OK. -/
def scalarsWritten (stepWord shiftWord1 shiftWord2 : Word) (swap : Bool) : State := { State.reset with
  symbolStep := stepWord
  shift1 := shiftWord1
  shift2 := shiftWord2
  swapOnStart := swap
  responses := List.replicate 4 ⟨0, 0⟩ }

section
variable (stepWord shiftWord1 shiftWord2 : Word) (swap : Bool) (freqs symbols : List Word)

/-- Nothing pushed leaves the stores of the reset state, which are zeros. -/
theorem pushed_nil_scalarsWritten : pushed [] [] (scalarsWritten stepWord shiftWord1 shiftWord2 swap) =
    scalarsWritten stepWord shiftWord1 shiftWord2 swap := by
  simp only [pushed, ofFn_getD_nil]
  rfl

theorem execAll_scalars :
    execAll [.wr 0x10 stepWord, .wr 0x11 shiftWord1, .wr 0x12 shiftWord2, .wr 0x13 (if swap then 1 else 0)] State.reset =
      .next (scalarsWritten stepWord shiftWord1 shiftWord2 swap) := by
  cases swap <;> rfl

/-- The core when the sequence of R113 comes to its INIT. -/
def beforeInit : State := pushed freqs (symbols.map symOf) (scalarsWritten stepWord shiftWord1 shiftWord2 swap)

/-- The sequence of R113 is its INIT on the loaded core. -/
theorem execAll_configCommands (hsymbols : ∀ v ∈ symbols, v.toNat ≤ 3) :
    execAll (configCommands stepWord shiftWord1 shiftWord2 swap freqs symbols) State.reset =
      exec .init (beforeInit stepWord shiftWord1 shiftWord2 swap freqs symbols) := by
  have hscalars := execAll_scalars stepWord shiftWord1 shiftWord2 swap
  rw [← pushed_nil_scalarsWritten] at hscalars
  rw [configCommands, List.append_assoc, List.append_assoc, execAll_append hscalars,
    execAll_append (execAll_pushf_pushed _ _ rfl _), execAll_append (execAll_pushs_pushed _ _ rfl hsymbols),
    execAll_singleton]
  rfl

theorem beforeInit_responses : (beforeInit stepWord shiftWord1 shiftWord2 swap freqs symbols).responses =
    List.replicate (4 + freqs.length + symbols.length) ⟨0, 0⟩ := by
  simp only [beforeInit, pushed, scalarsWritten, List.length_map, List.replicate_append_replicate, Nat.add_assoc]

theorem beforeInit_freqCount :
    (beforeInit stepWord shiftWord1 shiftWord2 swap freqs symbols).freqCount.toNat = min freqs.length 31 :=
  pushed_freqCount ..

theorem beforeInit_symCount :
    (beforeInit stepWord shiftWord1 shiftWord2 swap freqs symbols).symCount.toNat = min symbols.length 255 := by
  rw [beforeInit, pushed_symCount, List.length_map]

/-- FTAB holds the frequency words in list order (R104). -/
theorem beforeInit_ftab {k : Nat} (hk : k < 16) (hlen : k < freqs.length) :
    (beforeInit stepWord shiftWord1 shiftWord2 swap freqs symbols).ftab[k]? = freqs[k]? :=
  ofFn_getD_getElem? hk hlen 0

/-- STAB holds the symbols in list order (R105). -/
theorem beforeInit_stab {k : Nat} (hk : k < 162) (hlen : k < symbols.length) :
    (beforeInit stepWord shiftWord1 shiftWord2 swap freqs symbols).stab[k]? = (symbols[k]?).map symOf :=
  (ofFn_getD_getElem? hk (by rwa [List.length_map]) 0).trans List.getElem?_map

/-- INIT's checks on the loaded core, as its response code (R106). -/
theorem initCheck_beforeInit_code :
    (initCheck (beforeInit stepWord shiftWord1 shiftWord2 swap freqs symbols)).elim 0 rspCode =
      if freqs.length = 0 then 6 else if 16 < freqs.length then 7 else if symbols.length ≠ 162 then 8 else 0 := by
  rw [initCheck, beforeInit_freqCount, beforeInit_symCount, Config.maxf, Config.nsym]
  simp only [apply_ite (fun e : Option ErrCode => e.elim (0 : BitVec 4) rspCode)]
  exact if_congr (by omega) rfl (if_congr (by omega) rfl (if_congr (by omega) rfl rfl))

theorem initCheck_beforeInit_eq_none_iff : initCheck (beforeInit stepWord shiftWord1 shiftWord2 swap freqs symbols) = none ↔
    1 ≤ freqs.length ∧ freqs.length ≤ 16 ∧ symbols.length = 162 := by
  rw [initCheck_none, beforeInit_freqCount, beforeInit_symCount]
  omega

end

/-- The shape of the responses of a sequence of which only the last may fail. -/
theorem responses_of_replicate_concat {rsps : List Response} {n : Nat} {ok r : Response}
    (h : rsps = List.replicate n ok ++ [r]) :
    rsps.length = n + 1 ∧ (∀ x ∈ rsps.dropLast, x = ok) ∧ rsps.getLast? = some r := by
  subst h
  refine ⟨by simp, fun x hx => ?_, List.getLast?_concat⟩
  rw [List.dropLast_concat] at hx
  exact List.eq_of_mem_replicate hx

/-- Settles O19: all but INIT answer OK, and INIT answers by its checks. -/
theorem initializeSequenceOutcome : Obligations.InitializeSequenceOutcome := by
  intro stepWord shiftWord1 shiftWord2 swap freqs symbols hsymbols
  rw [execAll_configCommands _ _ _ _ _ _ hsymbols, ← initCheck_beforeInit_code stepWord shiftWord1 shiftWord2 swap,
    ← initCheck_beforeInit_eq_none_iff stepWord shiftWord1 shiftWord2 swap]
  have hresponses := beforeInit_responses stepWord shiftWord1 shiftWord2 swap freqs symbols
  have hready : (beforeInit stepWord shiftWord1 shiftWord2 swap freqs symbols).ready = false := rfl
  rw [exec_init hready]
  generalize beforeInit stepWord shiftWord1 shiftWord2 swap freqs symbols = s at hresponses hready ⊢
  cases hcheck : initCheck s with
  | none =>
    obtain ⟨hlen, hok, hlast⟩ := responses_of_replicate_concat (congrArg (· ++ [⟨0, 0⟩]) hresponses)
    exact ⟨respond 0 (initialise s), rfl, hlen.trans (by omega), hok, hlast, by simp⟩
  | some e =>
    obtain ⟨hlen, hok, hlast⟩ := responses_of_replicate_concat (congrArg (· ++ [⟨rspCode e, 0⟩]) hresponses)
    exact ⟨reject e s, rfl, hlen.trans (by omega), hok, hlast, by simp [hready]⟩

/-- Settles O20: INIT passes its checks and leaves what was pushed. -/
theorem initializeSequenceLoads : Obligations.InitializeSequenceLoads := by
  intro stepWord shiftWord1 shiftWord2 swap freqs symbols hsymbols hsome hfits hcomplete
  have hcheck := (initCheck_beforeInit_eq_none_iff stepWord shiftWord1 shiftWord2 swap freqs symbols).2
    ⟨hsome, hfits, hcomplete⟩
  refine ⟨respond 0 (initialise (beforeInit stepWord shiftWord1 shiftWord2 swap freqs symbols)), ?_,
    rfl, rfl, rfl, rfl, ?_, ?_, rfl, rfl, rfl, fun k hk => ?_, fun k hk => ?_⟩
  · rw [execAll_configCommands _ _ _ _ _ _ hsymbols, exec_init rfl, hcheck]
    rfl
  · rw [respond_freqCount, initialise_freqCount, beforeInit_freqCount]
    omega
  · rw [respond_symCount, initialise_symCount, beforeInit_symCount]
    omega
  · rw [respond_ftab, initialise_ftab, beforeInit_ftab _ _ _ _ _ _ (by omega) hk]
  · have hlen : k < symbols.length := by omega
    rw [respond_stab, initialise_stab, beforeInit_stab _ _ _ _ _ _ hk hlen, List.getElem?_eq_getElem hlen]
    exact congrArg some (symOf_toNat (hsymbols _ (List.getElem_mem hlen)))

/-! ## Proofs of the configuration family: the host's conversions (R110, R112, R114) -/

theorem ofInt_toNat (z : ℤ) : ((BitVec.ofInt 64 z).toNat : ℤ) = z % 2 ^ 64 := by
  rw [BitVec.toNat_ofInt, Int.toNat_of_nonneg (Int.emod_nonneg _ (by decide))]
  rfl

/-- One whole turn, 2^64, is 0 in a word. -/
theorem ofInt_add_turn (z : ℤ) : BitVec.ofInt 64 (z + 2 ^ 64) = BitVec.ofInt 64 z := by
  rw [BitVec.ofInt_add, show BitVec.ofInt 64 (2 ^ 64) = 0#64 from rfl, BitVec.add_zero]

/-- A word falls short of the number it is the floor of by the fraction, modulo 2^64. -/
theorem ofInt_floor_toNat (q : ℚ) :
    ((BitVec.ofInt 64 ⌊q⌋).toNat : ℚ) = q - Int.fract q - (⌊q⌋ / 2 ^ 64 : ℤ) * 2 ^ 64 := by
  have hword : ((BitVec.ofInt 64 ⌊q⌋).toNat : ℤ) = ⌊q⌋ - ⌊q⌋ / 2 ^ 64 * 2 ^ 64 := by
    rw [ofInt_toNat, Int.emod_def, mul_comm]
  rw [Int.self_sub_fract]
  exact_mod_cast hword

/-- The word of a negated number: negated, and 1 less unless the number is an integer. -/
theorem ofInt_floor_neg (q : ℚ) :
    BitVec.ofInt 64 ⌊-q⌋ = if (⌊q⌋ : ℚ) = q then -BitVec.ofInt 64 ⌊q⌋ else -BitVec.ofInt 64 ⌊q⌋ - 1 := by
  rw [Int.floor_neg, BitVec.ofInt_neg]
  split_ifs with hint
  · rw [← hint, Int.ceil_intCast, Int.floor_intCast]
  · have hceil : ⌈q⌉ = ⌊q⌋ + 1 :=
      (Int.ceil_eq_floor_add_one_iff_notMem q).2 fun ⟨z, hz⟩ => hint (by rw [← hz, Int.floor_intCast])
    rw [hceil, BitVec.ofInt_add, BitVec.neg_add]
    rfl

/-- Settles O57: the error is the rate times the fraction that the floor drops. -/
theorem frequencyWordAccuracy : Obligations.FrequencyWordAccuracy := by
  intro fs hz hfs
  have hpos : (0 : ℚ) < fs := by exact_mod_cast hfs
  refine ⟨_, fs * Int.fract (hz * 2 ^ 64 / fs), -(⌊hz * 2 ^ 64 / fs⌋ / 2 ^ 64), hzToFreq_of_pos hpos hz,
    mul_nonneg hpos.le (Int.fract_nonneg _), mul_lt_of_lt_one_right hpos (Int.fract_lt_one _), ?_⟩
  rw [freqWord, ofInt_floor_toNat, Int.cast_neg]
  field_simp
  ring

/-- Settles O58: the conversion on the quotient `hz * 2^64 / fs`. -/
theorem frequencyWordOfARate : Obligations.FrequencyWordOfARate := by
  intro fs hz hfs
  have hturn : fs * 2 ^ 64 / fs = (2 ^ 64 : ℤ) := by
    rw [mul_div_cancel_left₀ _ hfs.ne', Int.cast_pow, Int.cast_ofNat]
  have hhalf : fs / 2 * 2 ^ 64 / fs = (2 ^ 63 : ℤ) := by
    push_cast
    field_simp
    norm_num
  simp only [hzToFreq_of_pos hfs, Option.some.injEq, exists_eq_left', freqWord]
  refine ⟨⟨ofInt_toNat _, ?_⟩, ?_, ?_, ?_, ?_⟩
  · rw [neg_mul, neg_div, ofInt_floor_neg]
  · rw [zero_mul, zero_div, Int.floor_zero]
    rfl
  · rw [hturn, Int.floor_intCast]
    rfl
  · rw [hhalf, Int.floor_intCast]
    rfl
  · rw [add_mul, add_div, hturn, Int.floor_add_intCast, ofInt_add_turn]

/-- Settles O59: 360 degrees are one whole turn. -/
theorem angleWordIsModuloOneTurn : Obligations.AngleWordIsModuloOneTurn := by
  intro d
  refine ⟨ofInt_toNat _, ?_⟩
  have hturn : (d + 360) * 2 ^ 63 / 180 = d * 2 ^ 63 / 180 + (2 ^ 64 : ℤ) := by
    push_cast
    ring
  rw [degToShift, hturn, Int.floor_add_intCast, ofInt_add_turn, degToShift]

end Sys2Proof.Machine

/-! ## Proofs of the FILL and scheduler family: a rejected FILL, and what an accepted one runs and leaves (R120, R173) -/

namespace Sys2Proof.Machine

/-- A FILL before INIT (R120). -/
theorem exec_fill_unready {s : State} (hready : s.ready = false) (count : BitVec 32) :
    exec (.fill count) s = .next (reject .notReady s) := by
  simp only [exec, execFill, hready, Bool.false_eq_true, if_false]

/-- Settles O21: the rejection writes flag 3 and its response. -/
theorem fillBeforeInitIsRejected : Obligations.FillBeforeInitIsRejected :=
  fun _ count hready => exec_fill_unready hready count

/-- Settles O23: a loop whose host takes every beat runs all `count` turns. -/
theorem fillRunsCountSamples : Obligations.FillRunsCountSamples := by
  intro s count hready htakes
  rw [exec_fill_ready hready, fillLoop_of_none ((fillArm_hostTakes count s).trans htakes), fillArm_fillRemaining, fillArm_eq]

/-- A scheduler evaluation that does not meet the start condition changes nothing (R122). -/
theorem schedule_of_no_start {s : State} (h : s.active = true ∨ s.wallSec.toNat % 120 ≠ 1) : schedule s = s :=
  h.elim schedule_of_active schedule_of_other_second

theorem fillArm_of_no_start {s : State} (h : s.active = true ∨ s.wallSec.toNat % 120 ≠ 1) (count : BitVec 32) :
    fillArm count s = { s with fillRemaining := count } := by
  rw [fillArm_eq, schedule_of_no_start h]

/-- Settles O29: the loop keeps what no turn writes, and only START writes the band and the shifts. -/
theorem fillFrame : Obligations.FillFrame := by
  intro s t count hready hexec
  rw [exec_fill_ready hready] at hexec
  cases hexec
  have hband : s.active = true ∨ s.wallSec.toNat % 120 ≠ 1 →
      (fillLoop (fillArm count s)).baseFreq = s.baseFreq ∧ (fillLoop (fillArm count s)).bandIndex = s.bandIndex ∧
      (fillLoop (fillArm count s)).shift1 = s.shift1 ∧ (fillLoop (fillArm count s)).shift2 = s.shift2 :=
    fun h => by simp [fillArm_of_no_start h]
  simpa [fillArm_eq, hready] using hband

/-! ### START (R122, R123) -/

theorem ftabRead_eq_getD (s : State) {k : Nat} (hk : k < 16) : ftabRead s k = s.ftab.toList.getD k 0 := by
  simp [ftabRead, hk, List.getD]

theorem nextBand_of_pos {s : State} (h : 1 ≤ s.freqCount.toNat) :
    nextBand s = BitVec.ofNat 32 ((s.bandIndex.toNat + 1) % s.freqCount.toNat) :=
  if_neg (by omega)

theorem nextBand_toNat {s : State} (h : 1 ≤ s.freqCount.toNat) :
    (nextBand s).toNat = (s.bandIndex.toNat + 1) % s.freqCount.toNat := by
  have hlt : (s.bandIndex.toNat + 1) % s.freqCount.toNat < s.freqCount.toNat := Nat.mod_lt _ h
  have hwidth := s.freqCount.isLt
  rw [nextBand_of_pos h, BitVec.toNat_ofNat, Nat.mod_eq_of_lt (by omega)]

/-- A loop of no sample only responds (R120). -/
theorem fillLoop_of_zero {s : State} (h : s.fillRemaining = 0) : fillLoop s = respond 0 s := by
  simp [fillLoop, h, fillTurns, fillRespond]

/-- A FILL of no sample is one scheduler evaluation (R120). -/
theorem exec_fill_zero {s : State} (hready : s.ready = true) (hfree : s.fillRemaining = 0) :
    exec (.fill 0) s = .next (respond 0 (schedule s)) := by
  have harm : fillArm 0 s = schedule s := by
    rw [fillArm_eq, ← hfree, ← schedule_fillRemaining s]
  rw [exec_fill_ready hready, fillLoop_of_zero (fillArm_fillRemaining 0 s), harm]

/-- Settles O22: in READY the band is in the list and the list is not empty, so START reads what its rule says. -/
theorem startRunsExactlyOnItsCondition : Obligations.StartRunsExactlyOnItsCondition := by
  intro s hinv hready hfree
  rw [exec_fill_zero hready hfree]
  by_cases hstart : s.active = false ∧ s.wallSec.toNat % 120 = 1
  · rw [if_pos hstart]
    obtain ⟨hidle, hsec⟩ := hstart
    have hband : s.bandIndex.toNat < 16 := (hinv.bandInList hready).trans_le (hinv.freqFits hready)
    rw [schedule_of_start hidle hsec, startFrame, ftabRead_eq_getD s hband, nextBand_of_pos (hinv.someFreq hready)]
    rfl
  · have hno : s.active = true ∨ s.wallSec.toNat % 120 ≠ 1 := by
      rwa [not_and_or, Bool.not_eq_false] at hstart
    rw [if_neg hstart, schedule_of_no_start hno]
    rfl

/-! ### One START after another (R133, R134) -/

/-- START leaves the configuration alone, however often it runs. -/
theorem startFrame_iterate_config (n : Nat) (s : State) :
    (startFrame^[n] s).ftab = s.ftab ∧ (startFrame^[n] s).freqCount = s.freqCount ∧
      (startFrame^[n] s).swapOnStart = s.swapOnStart := by
  induction n with
  | zero => exact ⟨rfl, rfl, rfl⟩
  | succ n ih => rwa [Function.iterate_succ_apply']

/-- The band counts the STARTs modulo the list's length (R133). -/
theorem startFrame_iterate_bandIndex {s : State} (hband : s.bandIndex = 0) (hsome : 1 ≤ s.freqCount.toNat) (n : Nat) :
    (startFrame^[n] s).bandIndex.toNat = n % s.freqCount.toNat := by
  induction n with
  | zero => simp [hband]
  | succ n ih =>
    obtain ⟨-, hcount, -⟩ := startFrame_iterate_config n s
    rw [Function.iterate_succ_apply', startFrame_bandIndex, nextBand_toNat (by rwa [hcount]), ih, hcount, Nat.mod_add_mod]

/-- Settles O33: START reads the list at the band the STARTs before it left. -/
theorem bandRotatesThroughTheList : Obligations.BandRotatesThroughTheList := by
  intro s j hband hsome hfits
  obtain ⟨hftab, -, -⟩ := startFrame_iterate_config j s
  have hlt : j % s.freqCount.toNat < 16 := (Nat.mod_lt _ hsome).trans_le hfits
  refine ⟨?_, startFrame_iterate_bandIndex hband hsome (j + 1)⟩
  rw [Function.iterate_succ_apply', startFrame_baseFreq, startFrame_iterate_bandIndex hband hsome,
    ftabRead_eq_getD _ hlt, hftab]

/-- The two shifts of R27. -/
def shifts (s : State) : Word × Word := (s.shift1, s.shift2)

/-- With `swap_on_start` each START exchanges the shifts (R123). -/
theorem shifts_startFrame_iterate {s : State} (hswap : s.swapOnStart = true) (n : Nat) :
    shifts (startFrame^[n] s) = Prod.swap^[n] (shifts s) := by
  induction n with
  | zero => rfl
  | succ n ih =>
    obtain ⟨-, -, hswap'⟩ := startFrame_iterate_config n s
    rw [Function.iterate_succ_apply', Function.iterate_succ_apply', ← ih]
    simp [shifts, hswap', hswap]

/-- Without it the shifts stay (R123). -/
theorem shifts_startFrame_iterate_of_no_swap {s : State} (hswap : s.swapOnStart = false) (n : Nat) :
    shifts (startFrame^[n] s) = shifts s := by
  induction n with
  | zero => rfl
  | succ n ih =>
    obtain ⟨-, -, hswap'⟩ := startFrame_iterate_config n s
    rw [Function.iterate_succ_apply', ← ih]
    simp [shifts, hswap', hswap]

/-- Settles O34: an exchange is its own inverse. -/
theorem shiftsAlternateBetweenFrames : Obligations.ShiftsAlternateBetweenFrames := by
  intro s j
  have hswaps : Function.Involutive (Prod.swap : Word × Word → Word × Word) := Prod.swap_swap
  refine ⟨fun hswap hj => ?_, fun hswap hj => ?_, fun hswap => ?_⟩
  · have h := shifts_startFrame_iterate hswap (j + 1)
    rw [hswaps.iterate_odd (Nat.odd_iff.2 (by omega))] at h
    exact Prod.mk.inj h
  · have h := shifts_startFrame_iterate hswap (j + 1)
    rw [hswaps.iterate_even (Nat.even_iff.2 (by omega))] at h
    exact Prod.mk.inj h
  · exact Prod.mk.inj (shifts_startFrame_iterate_of_no_swap hswap (j + 1))

end Sys2Proof.Machine
/-! ## Proofs of the FILL and scheduler family: the idle FILL (R131, R135, R152) -/

namespace Sys2Proof.Machine

/-- The mid-scale beat of R152. -/
def midScale (last : Bool) : Beat := ⟨128, 128, 128, last⟩

/-- `t` follows `s` by idle samples: the dither generator, the FILL's counter, the host's line and the two output ports may
have moved, and each new beat is mid-scale. -/
def IdleSince (s t : State) : Prop :=
  ∃ (l : Word) (f : BitVec 32) (h : Option Nat) (lasts : List Bool) (rsps : List Response), t = { s with
    lcg := l, fillRemaining := f, hostTakes := h, beats := s.beats ++ lasts.map midScale, responses := rsps }

theorem IdleSince.fillTurn {s t : State} (hidle : s.active = false) (h : IdleSince s t) : IdleSince s (fillTurn t) := by
  obtain ⟨l, f, h, lasts, rsps, rfl⟩ := h
  rw [fillTurn_idle (by exact hidle)]
  refine ⟨ditherNext l, f - 1, h.map (· - 1), lasts ++ [f == 1], rsps, ?_⟩
  rw [List.map_append, ← List.append_assoc]
  rfl

theorem IdleSince.fillLoop {s t : State} (hidle : s.active = false) (h : IdleSince s t) : IdleSince s (fillLoop t) := by
  refine fillLoop_induction (P := IdleSince s) (fun _ => IdleSince.fillTurn hidle) ?_ h
  rintro _ ⟨l, f, h, lasts, rsps, rfl⟩
  exact ⟨l, f, h, lasts, _, rfl⟩

/-- Settles O30: an idle loop is idle samples, from the counter's loading to its last beat taken. -/
theorem idleFillMovesNoOscillator : Obligations.IdleFillMovesNoOscillator := by
  intro s t count hready hidle hsec hexec
  rw [exec_fill_ready hready, fillArm_of_no_start (.inr hsec)] at hexec
  cases hexec
  have harmed : IdleSince s { s with fillRemaining := count } :=
    ⟨s.lcg, count, s.hostTakes, [], s.responses, by simp⟩
  obtain ⟨l, f, h, lasts, rsps, ht⟩ := harmed.fillLoop hidle
  rw [ht]
  refine ⟨rfl, rfl, rfl, rfl, rfl, rfl, rfl, rfl, hidle, fun b hb => ?_⟩
  rw [List.drop_left, List.mem_map] at hb
  obtain ⟨last, -, rfl⟩ := hb
  exact ⟨rfl, rfl, rfl⟩

/-- The countdown is 1 exactly before the last of its turns. -/
theorem countdown_eq_one {count : BitVec 32} {n : Nat} (hn : n < count.toNat) :
    (count - BitVec.ofNat 32 n == 1) = decide (n + 1 = count.toNat) := by
  have hcount : (count - BitVec.ofNat 32 n).toNat = count.toNat - n := by
    have := count.isLt
    simp only [BitVec.toNat_sub, BitVec.toNat_ofNat]
    omega
  rw [beq_eq_decide, decide_eq_decide, ← BitVec.toNat_inj, hcount]
  change count.toNat - n = 1 ↔ _
  omega

/-- The first `n` turns of an idle loop whose host takes every beat (R131, R141, R152). -/
theorem fillTurn_iterate_idle {s : State} (hidle : s.active = false) (htakes : s.hostTakes = none) (n : Nat)
    (hn : n ≤ s.fillRemaining.toNat) : fillTurn^[n] s = { s with
      lcg := ditherNext^[n] s.lcg
      fillRemaining := s.fillRemaining - BitVec.ofNat 32 n
      beats := s.beats ++ (List.range n).map fun k => midScale (decide (k + 1 = s.fillRemaining.toNat)) } := by
  induction n with
  | zero => simp
  | succ n ih =>
    rw [Function.iterate_succ_apply', ih (by omega), fillTurn_idle (by exact hidle), idleBeat_eq, countdown_eq_one hn,
      htakes, Function.iterate_succ_apply', List.range_succ, List.map_append, ← List.append_assoc, BitVec.ofNat_add,
      ← BitVec.sub_sub]
    rfl

/-- Settles O24: the loop of an idle core, run to its end. -/
theorem idleFillEmitsMidScale : Obligations.IdleFillEmitsMidScale := by
  intro s count hready htakes hidle hsec
  have hlcg : (fun x : Word => x * 6364136223846793005 + 1) = ditherNext := (funext ditherNext_eq).symm
  rw [exec_fill_ready hready, fillArm_of_no_start (.inr hsec), fillLoop_of_none (by exact htakes),
    fillTurn_iterate_idle (by exact hidle) (by exact htakes) _ le_rfl, hlcg, BitVec.ofNat_toNat, BitVec.setWidth_eq,
    BitVec.sub_self]
  rfl

end Sys2Proof.Machine

/-! ## Proofs of the FILL and scheduler family: the length of a frame (R132) -/

namespace Sys2Proof.Machine

/-! ### ADVANCE on the symbol clock -/

@[simp] theorem advance_symbolPhase (s : State) : (advance s).symbolPhase = s.symbolPhase + s.symbolStep := by
  unfold advance; split <;> simp

theorem advance_symbolIndex (s : State) :
    (advance s).symbolIndex = if symbolWraps s then s.symbolIndex + 1 else s.symbolIndex := by
  by_cases hwrap : symbolWraps s = true
  · rw [if_pos hwrap]
    by_cases hnext : (s.symbolIndex + 1).toNat < 162
    · rw [advance_of_tone hwrap hnext, toneUpdate_symbolIndex]
    · rw [advance_of_end hwrap hnext, endFrame_symbolIndex]
  · rw [if_neg hwrap, advance_of_no_wrap hwrap, accumulate_symbolIndex]

/-- ADVANCE ends the frame exactly when it leaves the index at 162 (R130). -/
theorem advance_active_iff {s : State} (hactive : s.active = true) (hindex : s.symbolIndex.toNat < 162) :
    (advance s).active = true ↔ (advance s).symbolIndex.toNat < 162 := by
  by_cases hwrap : symbolWraps s = true
  · by_cases hnext : (s.symbolIndex + 1).toNat < 162
    · simp only [advance_of_tone hwrap hnext, toneUpdate_active, toneUpdate_symbolIndex, accumulate_active, hactive, hnext]
    · simp only [advance_of_end hwrap hnext, endFrame_active, endFrame_symbolIndex, Bool.false_eq_true, hnext]
  · simp [advance_of_no_wrap hwrap, hactive, hindex]

/-- The symbol clock as one number: symbols sent, in units of `symbol_phase` (R24, R30). -/
def symbolTime (s : State) : Nat := s.symbolIndex.toNat * 2 ^ 64 + s.symbolPhase.toNat

theorem symbolTime_div (s : State) : symbolTime s / 2 ^ 64 = s.symbolIndex.toNat := by
  have := s.symbolPhase.isLt
  rw [symbolTime]
  omega

theorem symbolTime_lt_iff (s : State) : symbolTime s < 162 * 2 ^ 64 ↔ s.symbolIndex.toNat < 162 := by
  rw [← symbolTime_div, Nat.div_lt_iff_lt_mul (by decide)]

/-- The wrap of `symbol_phase` carries into `symbol_index`: ADVANCE adds `symbol_step` to the clock (R127, R128). -/
theorem symbolTime_advance {s : State} (hindex : s.symbolIndex.toNat < 162) :
    symbolTime (advance s) = symbolTime s + s.symbolStep.toNat := by
  have hnext := symbolIndex_succ hindex.le
  have hphase : (s.symbolPhase + s.symbolStep).toNat = (s.symbolPhase.toNat + s.symbolStep.toNat) % 2 ^ 64 :=
    BitVec.toNat_add ..
  have hold := s.symbolPhase.isLt
  have hstep := s.symbolStep.isLt
  have hwrap := symbolWraps_iff s
  rw [symbolTime, symbolTime, advance_symbolPhase, advance_symbolIndex, hphase]
  by_cases hw : symbolWraps s = true
  · have hcarry := hwrap.1 hw
    rw [if_pos hw, hnext]
    omega
  · have hnone := mt hwrap.2 hw
    rw [if_neg hw]
    omega

/-- A transmitting SAMPLE moves the clock by `symbol_step`, and stays in the frame until the clock shows 162 symbols (R125 to
R130). -/
theorem sample_symbolTime {s : State} (hactive : s.active = true) (htime : symbolTime s < 162 * 2 ^ 64) :
    symbolTime (sample s) = symbolTime s + s.symbolStep.toNat ∧
      ((sample s).active = true ↔ symbolTime (sample s) < 162 * 2 ^ 64) := by
  have hindex := (symbolTime_lt_iff s).1 htime
  rw [sample_transmitting hactive, symbolTime_lt_iff]
  exact ⟨symbolTime_advance (s := emit _ (ditherStep s)) hindex,
    advance_active_iff (s := emit _ (ditherStep s)) hactive hindex⟩

/-! ### From START to the end of the frame -/

/-- `ceil(162 * 2^64 / step)`: the samples of a frame (R132). -/
def frameLength (step : Nat) : Nat := (162 * 2 ^ 64 + step - 1) / step

theorem lt_frameLength_iff {step : Nat} (hstep : 0 < step) {n : Nat} : n < frameLength step ↔ n * step < 162 * 2 ^ 64 := by
  rw [frameLength, ← Nat.ceilDiv_eq_add_pred_div, ← not_le, ceilDiv_le_iff_le_mul hstep, not_le, mul_comm]

/-- A frame's length is enough for 162 symbols, by less than one sample. -/
theorem frameLength_mul_bounds {step : Nat} (hstep : 0 < step) :
    162 * 2 ^ 64 ≤ frameLength step * step ∧ frameLength step * step < 162 * 2 ^ 64 + step := by
  have hdiv : frameLength step * step + (162 * 2 ^ 64 + step - 1) % step = 162 * 2 ^ 64 + step - 1 :=
    Nat.div_add_mod' _ _
  have hrem := Nat.mod_lt (162 * 2 ^ 64 + step - 1) hstep
  omega

theorem sample_iterate_symbolStep (n : Nat) (s : State) : (sample^[n] s).symbolStep = s.symbolStep := by
  induction n with
  | zero => rfl
  | succ n ih => rw [Function.iterate_succ_apply', sample_symbolStep, ih]

/-- Up to the frame's last sample the clock shows `n` steps, and the core transmits as long as that is below 162 symbols. -/
theorem sample_iterate_symbolTime {s : State} (hactive : s.active = true) (hzero : symbolTime s = 0)
    (hstep : 0 < s.symbolStep.toNat) (n : Nat) (hn : n ≤ frameLength s.symbolStep.toNat) :
    symbolTime (sample^[n] s) = n * s.symbolStep.toNat ∧
      ((sample^[n] s).active = true ↔ n * s.symbolStep.toNat < 162 * 2 ^ 64) := by
  induction n with
  | zero => simp [hzero, hactive]
  | succ n ih =>
    obtain ⟨htime, hiff⟩ := ih (Nat.le_of_succ_le hn)
    have hlt := (lt_frameLength_iff hstep).1 hn
    obtain ⟨htime', hiff'⟩ := sample_symbolTime (hiff.2 hlt) (htime ▸ hlt)
    rw [htime, sample_iterate_symbolStep, ← Nat.succ_mul] at htime'
    rw [Function.iterate_succ_apply']
    exact ⟨htime', htime' ▸ hiff'⟩

/-- At its length the frame is over, with all 162 symbols sent (R130). -/
theorem sample_iterate_frameLength {s : State} (hactive : s.active = true) (hzero : symbolTime s = 0)
    (hstep : 0 < s.symbolStep.toNat) :
    (sample^[frameLength s.symbolStep.toNat] s).active = false ∧
      (sample^[frameLength s.symbolStep.toNat] s).symbolIndex = 162 := by
  obtain ⟨htime, hiff⟩ := sample_iterate_symbolTime hactive hzero hstep _ le_rfl
  obtain ⟨hover, hclose⟩ := frameLength_mul_bounds hstep
  have hlt := s.symbolStep.isLt
  refine ⟨by simpa using mt hiff.1 hover.not_gt, BitVec.eq_of_toNat_eq ?_⟩
  rw [← symbolTime_div, htime, show (162 : BitVec 32).toNat = 162 from rfl]
  omega

/-- Settles O31: the symbol clock up to the frame's end, idle samples from there on. -/
theorem frameLastsExactlyItsLength : Obligations.FrameLastsExactlyItsLength := by
  intro s hactive hindex hphase hstep frame
  have hpos : 0 < s.symbolStep.toNat := Nat.pos_of_ne_zero fun h => hstep (BitVec.eq_of_toNat_eq h)
  have hzero : symbolTime s = 0 := by simp [symbolTime, hindex, hphase]
  have hclock := sample_iterate_symbolTime hactive hzero hpos
  refine ⟨fun n hn => ?_, fun n hn => (hclock n hn.le).2.2 ((lt_frameLength_iff hpos).1 hn), fun n hn => ?_⟩
  · rw [← symbolTime_div, (hclock n hn).1]
  · induction n, hn using Nat.le_induction with
    | base => exact sample_iterate_frameLength hactive hzero hpos
    | succ n _ ih =>
      rw [Function.iterate_succ_apply', sample_idle ih.1]
      exact ih

end Sys2Proof.Machine

/-! ## Proofs of the signal path family: the dither generator (R141 to R143) -/

namespace Sys2Proof.Machine

/-- R141 in numbers. -/
theorem ditherNext_toNat (lcg : Word) : (ditherNext lcg).toNat = (lcg.toNat * 6364136223846793005 + 1) % 2 ^ 64 := by
  rw [ditherNext_eq, BitVec.toNat_add, BitVec.toNat_mul]
  exact Nat.mod_add_mod ..

/-- The generator runs first in every SAMPLE, idle or transmitting (R140, R141). -/
@[simp] theorem sample_lcg (s : State) : (sample s).lcg = ditherNext s.lcg := by
  cases h : s.active with
  | true => rw [sample_transmitting h, advance_lcg, emit_lcg, ditherStep_lcg]
  | false => rw [sample_idle h, emit_lcg, ditherStep_lcg]

/-- The inverse of `LCG_C` modulo 2^64, which there is because `LCG_C` is odd. -/
def lcgCInverse : Word := 13877824140714322085

theorem isUnit_lcgC : IsUnit Config.lcgC := IsUnit.of_mul_eq_one lcgCInverse (by decide)

/-- Multiplying by a unit is a bijection, and so is adding a constant. -/
theorem ditherNext_bijective : Function.Bijective ditherNext :=
  (AddGroup.addRight_bijective Config.lcgInc).comp (IsUnit.isUnit_iff_mulLeft_bijective.1 isUnit_lcgC)

/-- Settles O35: the generator's step in numbers, and its inverse. -/
theorem ditherStepsInEverySample : Obligations.DitherStepsInEverySample :=
  ⟨fun s => by rw [sample_lcg, ditherNext_toNat], ditherNext_bijective⟩

theorem phaseDither_toNat (r : Word) : (phaseDither r).toNat = r.toNat / 2 ^ 48 * 2 ^ 38 := by
  have hr := r.isLt
  simp only [phaseDither, Config.pdShift, BitVec.toNat_shiftLeft, BitVec.toNat_setWidth, BitVec.extractLsb'_toNat,
    Nat.shiftLeft_eq, Nat.shiftRight_eq_div_pow]
  omega

/-- Settles O36: the field has 16 bits. -/
theorem phaseDitherStaysBelowOneStep : Obligations.PhaseDitherStaysBelowOneStep := by
  intro r
  have hr := r.isLt
  exact ⟨phaseDither_toNat r, by rw [phaseDither_toNat]; omega⟩

/-- A field whose lowest bit is bit `k` or higher is a field of the word shifted down by `k`. -/
theorem extractLsb'_congr_above {r r' : Word} {k : Nat} (h : r.toNat / 2 ^ k = r'.toNat / 2 ^ k) (start len : Nat)
    (hk : k ≤ start) : r.extractLsb' start len = r'.extractLsb' start len := by
  obtain ⟨j, rfl⟩ := Nat.exists_eq_add_of_le hk
  apply BitVec.eq_of_toNat_eq
  simp only [BitVec.extractLsb'_toNat, Nat.shiftRight_eq_div_pow, pow_add, ← Nat.div_div_eq_div_mul, h]

/-- Settles O40: the beat reads four fields of the dither word, the lowest of them at bit 24. -/
theorem lowDitherBitsHaveNoEffect : Obligations.LowDitherBitsHaveNoEffect := by
  intro s r r' h
  have hpd : phaseDither r = phaseDither r' := by
    rw [phaseDither, phaseDither, extractLsb'_congr_above h 48 16 (by decide)]
  have h0 : ampDither0 r = ampDither0 r' := extractLsb'_congr_above h 40 8 (by decide)
  have h1 : ampDither1 r = ampDither1 r' := extractLsb'_congr_above h 32 8 (by decide)
  have h2 : ampDither2 r = ampDither2 r' := extractLsb'_congr_above h 24 8 (by decide)
  rw [signalBeat, signalBeat, hpd, h0, h1, h2]

end Sys2Proof.Machine

/-! ## Proofs of the signal path family: the router (R145, R146, R154) -/

namespace Sys2Proof.Machine

theorem tableIndex_toNat (ph : Word) : (tableIndex ph).toNat = ph.toNat / 2 ^ 54 := by
  have hph := ph.isLt
  simp only [tableIndex, Config.tShift, BitVec.extractLsb'_toNat, Nat.shiftRight_eq_div_pow]
  omega

/-- Channel 0, and any channel with shift 0, reads the table at the phase itself (R145). -/
theorem tableIndex_add_zero (ph : Word) : tableIndex (ph + 0) = tableIndex ph := congrArg tableIndex (BitVec.add_zero ph)

/-- A table step is a unit of the index, which wraps with the phase. -/
theorem tableIndex_add_steps (ph : Word) (k : Nat) :
    tableIndex (ph + BitVec.ofNat 64 k <<< 54) = tableIndex ph + BitVec.ofNat 10 k := by
  apply BitVec.eq_of_toNat_eq
  simp only [BitVec.toNat_add, tableIndex_toNat, BitVec.toNat_shiftLeft, BitVec.toNat_ofNat, Nat.shiftLeft_eq]
  omega

/-- Settles O41: the shift's table steps are added to the phase last. -/
theorem shiftMovesTheIndexAroundTheCircle : Obligations.ShiftMovesTheIndexAroundTheCircle := by
  intro ph shift k
  exact ⟨tableIndex_add_zero ph, by rw [← BitVec.add_assoc, tableIndex_add_steps]⟩

end Sys2Proof.Machine

/-! ## Proofs of the signal path family: the quantizer and the output code (R149 to R153) -/

namespace Sys2Proof.Machine

theorem quantize_eq (v : BitVec 16) (d : Byte) : quantize v d = (v.toInt + d.toNat) / 256 := rfl

/-- Settles O37: the floor by its two inequalities. -/
theorem quantizerIsTheFloor : Obligations.QuantizerIsTheFloor := by
  intro v d hlow hhigh
  have hd := d.isLt
  have hq := quantize_eq v d
  omega

/-- A dither below one output step adds to the undithered value at most the carry out of the remainder (R153). -/
theorem quantize_eq_add_carry (v : BitVec 16) (d : Byte) :
    quantize v d = v.toInt / 256 + (if 256 - v.toInt % 256 ≤ (d.toNat : Int) then 1 else 0) := by
  have hd := d.isLt
  rw [quantize_eq]
  split <;> omega

/-- Of the 256 dither values, a remainder of `t` lets exactly `t` carry (R153). -/
theorem sum_carry {t : Nat} (ht : t < 256) :
    ∑ d ∈ Finset.range 256, (if 256 - (t : Int) ≤ (d : Nat) then (1 : Int) else 0) = t := by
  have hfilter : (Finset.range 256).filter (fun d : Nat => 256 - (t : Int) ≤ d) = Finset.Ico (256 - t) 256 := by
    ext d
    simp only [Finset.mem_filter, Finset.mem_range, Finset.mem_Ico]
    omega
  rw [Finset.sum_boole, hfilter, Nat.card_Ico, Nat.sub_sub_self ht.le]

/-- Settles O39: the 256 results are `v / 256` each, and the remainder in carries. -/
theorem quantizerIsUnbiased : Obligations.QuantizerIsUnbiased := by
  intro v
  refine ⟨quantize_eq_add_carry v, by simp [quantize_eq], ?_⟩
  obtain ⟨t, ht⟩ := Int.eq_ofNat_of_zero_le (Int.emod_nonneg v.toInt (show (256 : Int) ≠ 0 by decide))
  have hbyte : ∀ d ∈ Finset.range 256, quantize v (BitVec.ofNat 8 d) =
      v.toInt / 256 + (if 256 - (t : Int) ≤ (d : Nat) then 1 else 0) := by
    intro d hd
    rw [quantize_eq_add_carry, ht, BitVec.toNat_ofNat, Nat.mod_eq_of_lt (Finset.mem_range.1 hd)]
  rw [Finset.sum_congr rfl hbyte, Finset.sum_add_distrib, sum_carry (by omega)]
  simp only [Finset.sum_const, Finset.card_range, nsmul_eq_mul]
  push_cast
  omega

/-- A ROM word at an index of ten bits is the listing's integer. -/
theorem sineRom_toInt_eq (i : BitVec 10) : (sineRom i).toInt = sineInt i.toNat := by
  simpa using sineRom_toInt i.isLt

theorem sineRom_range (i : BitVec 10) : -32512 ≤ (sineRom i).toInt ∧ (sineRom i).toInt ≤ 32512 :=
  sineRom_toInt_eq i ▸ sineInt_range i.toNat i.isLt

/-- In the table's range the biased value fits a byte, so the code is the quantizer's value plus 128 (R150, R151). -/
theorem outCode_sineRom_toNat (i : BitVec 10) (d : Byte) :
    ((outCode (sineRom i) d).toNat : Int) = ((sineRom i).toInt + d.toNat) / 256 + 128 := by
  obtain ⟨hlow, hhigh⟩ := sineRom_range i
  have hd := d.isLt
  rw [outCode, quantize_eq, BitVec.toNat_ofInt]
  change ((((_ + 128 : Int) % 256).toNat : Nat) : Int) = _
  omega

/-- Settles O38: the code is the quantizer's value plus 128, and the sum's range bounds the value. -/
theorem outputCodesStayInRange : Obligations.OutputCodesStayInRange := by
  intro i d
  obtain ⟨hlow, hhigh⟩ := sineRom_range i
  have hcode := outCode_sineRom_toNat i d
  have hd := d.isLt
  exact ⟨by omega, by omega, by omega⟩

/-- R144 to R150 in numbers: the index of the shifted phase, the table's word, the floor of the dithered sum, the bias. -/
theorem laneCode_toNat (ph shift : Word) (d : Byte) :
    ((laneCode ph shift d).toNat : Int) =
      (sineInt ((ph.toNat + shift.toNat) % 2 ^ 64 / 2 ^ 54) + d.toNat) / 256 + 128 := by
  rw [laneCode, outCode_sineRom_toNat, sineRom_toInt_eq, tableIndex_toNat, BitVec.toNat_add]

theorem laneCode_unshifted_toNat (ph : Word) (d : Byte) :
    ((laneCode ph 0 d).toNat : Int) = (sineInt (ph.toNat / 2 ^ 54) + d.toNat) / 256 + 128 := by
  rw [laneCode, outCode_sineRom_toNat, sineRom_toInt_eq, tableIndex_add_zero, tableIndex_toNat]

end Sys2Proof.Machine

/-! ## Proofs of the signal path family: one transmitting sample (R125 to R130, R140 to R150) -/

namespace Sys2Proof.Machine

/-- The symbol index that ADVANCE leaves (R128). -/
def nextSymbol (s : State) : BitVec 32 := if symbolWraps s then s.symbolIndex + 1 else s.symbolIndex

/-- ADVANCE of a transmitting core in one record: the next tone or the frame's end at a wrap (R125 to R130). -/
theorem advance_of_active {s : State} (hactive : s.active = true) : advance s = { s with
    phase := s.phase + s.freq
    symbolPhase := s.symbolPhase + s.symbolStep
    symbolIndex := nextSymbol s
    freq := if symbolWraps s && decide ((nextSymbol s).toNat < 162) then
        toneWord s.baseFreq s.symbolStep (stabRead s (nextSymbol s).toNat)
      else s.freq
    active := !(symbolWraps s && !decide ((nextSymbol s).toNat < 162)) } := by
  by_cases hwrap : symbolWraps s = true
  · have hindex : nextSymbol s = s.symbolIndex + 1 := if_pos hwrap
    by_cases hnext : (s.symbolIndex + 1).toNat < 162
    · rw [advance_of_tone hwrap hnext, hindex, hwrap, decide_eq_true hnext, toneUpdate, accumulate, hactive]
      rfl
    · rw [advance_of_end hwrap hnext, hindex, hwrap, decide_eq_false hnext]
      rfl
  · have hindex : nextSymbol s = s.symbolIndex := if_neg hwrap
    rw [advance_of_no_wrap hwrap, hindex, Bool.eq_false_iff.2 hwrap, accumulate, hactive]
    rfl

theorem ampDither0_toNat (r : Word) : (ampDither0 r).toNat = r.toNat / 2 ^ 40 % 256 := by
  rw [ampDither0, BitVec.extractLsb'_toNat, Nat.shiftRight_eq_div_pow]

theorem ampDither1_toNat (r : Word) : (ampDither1 r).toNat = r.toNat / 2 ^ 32 % 256 := by
  rw [ampDither1, BitVec.extractLsb'_toNat, Nat.shiftRight_eq_div_pow]

theorem ampDither2_toNat (r : Word) : (ampDither2 r).toNat = r.toNat / 2 ^ 24 % 256 := by
  rw [ampDither2, BitVec.extractLsb'_toNat, Nat.shiftRight_eq_div_pow]

/-- One turn of the loop while transmitting, field by field (R140). -/
theorem fillTurn_transmitting {s : State} (hactive : s.active = true) : fillTurn s = { s with
    lcg := ditherNext s.lcg
    phase := s.phase + s.freq
    symbolPhase := s.symbolPhase + s.symbolStep
    symbolIndex := nextSymbol s
    freq := if symbolWraps s && decide ((nextSymbol s).toNat < 162) then
        toneWord s.baseFreq s.symbolStep (stabRead s (nextSymbol s).toNat)
      else s.freq
    active := !(symbolWraps s && !decide ((nextSymbol s).toNat < 162))
    fillRemaining := s.fillRemaining - 1
    hostTakes := s.hostTakes.map (· - 1)
    beats := s.beats ++ [signalBeat (ditherNext s.lcg) s] } := by
  rw [fillTurn, sample_transmitting hactive, advance_of_active (by exact hactive)]
  rfl

/-- Settles O25: a FILL of one sample is one transmitting turn and the response; its beat is read lane by lane. -/
theorem transmittingSampleIsTheRules : Obligations.TransmittingSampleIsTheRules := by
  intro s hready hactive htakes r ph i1 i2 wraps nextIndex
  have hr : (ditherNext s.lcg).toNat = r := ditherNext_toNat s.lcg
  have hlcg : BitVec.ofNat 64 r = ditherNext s.lcg := by rw [← hr, BitVec.ofNat_toNat, BitVec.setWidth_eq]
  have hph : (s.phase + phaseDither (ditherNext s.lcg)).toNat = ph := by
    rw [BitVec.toNat_add, phaseDither_toNat, hr]
  refine ⟨signalBeat (ditherNext s.lcg) { s with fillRemaining := 1 }, ?_, ?_, ?_, rfl, ?_⟩
  · rw [signalBeat, laneCode_unshifted_toNat, hph, ampDither0_toNat, hr]
  · rw [signalBeat, laneCode_toNat, hph, ampDither1_toNat, hr]
  · rw [signalBeat, laneCode_toNat, hph, ampDither2_toNat, hr]
  · rw [fillRunsCountSamples s 1 hready htakes, schedule_of_active hactive, hlcg]
    change Host.Outcome.next (respond 0 (fillTurn { s with fillRemaining := 1 })) = _
    rw [fillTurn_transmitting (by exact hactive)]
    dsimp only
    rw [htakes]
    rfl

end Sys2Proof.Machine

/-! ## Proofs of the exceptions family: no step stops, and what a rejection writes (R170 to R173, R183) -/

namespace Sys2Proof.Machine

/-! ### Waiting and going on -/

/-- Settles O10: an idle step changes nothing, and a FILL in progress whose host takes no beat stalls after zero turns. -/
theorem coreWaitsForTheHost : Obligations.CoreWaitsForTheHost := by
  refine fun s hrst => ⟨step_of_idle hrst, fun hfill htakes => ?_⟩
  have hpos : 0 < s.fillRemaining.toNat := Nat.pos_of_ne_zero fun hzero => hfill (BitVec.eq_of_toNat_eq hzero)
  have hstall : fillLoop s = s := (fillLoop_of_stall htakes hpos).1
  rw [step_of_fill hrst hfill, hstall]

/-- Settles O56: each kind of work has a next state, and each command has one. -/
theorem everyStepGoesOn : Obligations.EveryStepGoesOn := by
  intro s
  cases hrst : s.rst with
  | true => exact ⟨_, step_of_reset hrst⟩
  | false =>
    by_cases hfree : s.fillRemaining = 0
    · cases hport : s.cmdPort with
      | nil => exact ⟨_, step_of_idle hrst hfree hport⟩
      | cons t rest =>
        cases hdecode : decode t.word with
        | ok i => rw [step_of_command hrst hfree hport hdecode]; exact exec_total i _
        | error => exact ⟨_, step_of_illegal hrst hfree hport hdecode⟩
    · exact ⟨_, step_of_fill hrst hfree⟩

/-! ### A step rejects, or keeps the flags and answers OK (R172, R173) -/

variable {s t s' : State}

/-- `t` follows `s` without a rejection: the flags are those of `s`, and every response since is OK. -/
def FollowsOk (s t : State) : Prop :=
  t.errflags = s.errflags ∧ ∃ oks : List Response, t.responses = s.responses ++ oks ∧ ∀ r ∈ oks, r.code = 0

theorem followsOk_of_eq (hflags : t.errflags = s.errflags) (hresponses : t.responses = s.responses) : FollowsOk s t :=
  ⟨hflags, [], by simpa using hresponses, nofun⟩

theorem FollowsOk.respond (h : FollowsOk s t) (v : Word) : FollowsOk s (respond v t) := by
  obtain ⟨hflags, oks, hresponses, hoks⟩ := h
  refine ⟨hflags, oks ++ [⟨0, v⟩], by simp [hresponses], fun r hr => ?_⟩
  obtain hr | hr := List.mem_append.1 hr
  · exact hoks r hr
  · rw [List.mem_singleton.1 hr]

theorem FollowsOk.fillTurn (h : FollowsOk s t) : FollowsOk s (fillTurn t) := by
  simpa [FollowsOk] using h

theorem FollowsOk.fillLoop (h : FollowsOk s t) : FollowsOk s (fillLoop t) :=
  fillLoop_induction (P := FollowsOk s) (fun _ ht => ht.fillTurn) (fun _ ht => ht.respond 0) h

/-- A command that is not rejected raises no flag and answers nothing but OK. -/
theorem exec_rejects_or_followsOk {i : Instr} (hexec : exec i s = .next s') :
    (∃ e, s' = reject e s) ∨ FollowsOk s s' := by
  obtain hreject | ⟨-, v, rfl⟩ | ⟨-, _, _, -, hwrite⟩ | ⟨-, _, -, rfl⟩ | ⟨-, _, _, -, -, rfl⟩ | ⟨-, -, -, rfl⟩ |
    ⟨-, count, -, rfl⟩ := exec_cases hexec
  · exact .inl hreject
  all_goals right
  · exact (followsOk_of_eq rfl rfl).respond v
  · obtain rfl | rfl | rfl | rfl := hwrite <;> exact (followsOk_of_eq rfl rfl).respond 0
  · exact (followsOk_of_eq rfl rfl).respond 0
  · exact (followsOk_of_eq rfl rfl).respond 0
  · exact (followsOk_of_eq rfl rfl).respond 0
  · exact (followsOk_of_eq (t := fillArm count s) (schedule_errflags s) (schedule_responses s)).fillLoop

/-- Out of reset a step rejects the word it accepts, and then does nothing else, or it raises no flag and answers only OK. -/
theorem step_rejects_or_followsOk (hrst : s.rst = false) (hstep : step s = .next s') :
    (∃ tr rest e, s.cmdPort = tr :: rest ∧ s' = reject e (accept tr rest s)) ∨ FollowsOk s s' := by
  obtain ⟨hreset, -⟩ | ⟨-, -, rfl⟩ | ⟨-, -, -, rfl⟩ | ⟨-, -, tr, rest, hport, ⟨i, -, hexec⟩ | ⟨-, hreject⟩⟩ :=
    step_cases hstep
  · simp [hrst] at hreset
  · exact .inr (followsOk_of_eq rfl rfl).fillLoop
  · exact .inr (followsOk_of_eq rfl rfl)
  · obtain ⟨e, hreject⟩ | hok := exec_rejects_or_followsOk hexec
    · exact .inl ⟨tr, rest, e, hport, hreject⟩
    · exact .inr hok
  · exact .inl ⟨tr, rest, _, hport, hreject⟩

/-! ### The code of a rejection and its flag (R171, R172) -/

theorem rspCode_toNat (e : ErrCode) : (rspCode e).toNat = errNumber e := by cases e <;> rfl

theorem rspCode_ne_zero (e : ErrCode) : rspCode e ≠ 0 := by cases e <;> decide

/-- Raising a flag leaves every flag up that was up. -/
theorem errFlag_setErrFlag_of_errFlag {flags : BitVec 8} {e : ErrCode} (raised : ErrCode) (h : errFlag flags e = true) :
    errFlag (setErrFlag flags raised) e = true := by
  rw [errFlag] at h
  rw [errFlag, setErrFlag, BitVec.getLsbD_or, h, Bool.true_or]

/-- Settles O45: a response that is not OK is a rejection's, whose code numbers its flag. -/
theorem rejectionWritesOnlyItsFlag : Obligations.RejectionWritesOnlyItsFlag := by
  intro s s' t rest r hrst _ hport hstep hresponses hcode
  obtain ⟨t', rest', e, hport', rfl⟩ | ⟨-, oks, hoks, hok⟩ := step_rejects_or_followsOk hrst hstep
  · obtain ⟨rfl, rfl⟩ : t = t' ∧ rest = rest' := by simpa [hport] using hport'
    obtain rfl : ⟨rspCode e, 0⟩ = r := by simpa using hresponses
    refine ⟨rfl, ?_⟩
    rw [rspCode_toNat]
    rfl
  · obtain rfl : oks = [r] := List.append_cancel_left (hoks.symm.trans hresponses)
    exact absurd (hok r (by simp)) hcode

/-- Settles O46: only a rejection writes the flags; it adds one, and its response is not OK. -/
theorem flagsAreSticky : Obligations.FlagsAreSticky := by
  intro s s' hrst hstep
  obtain ⟨t, rest, e, -, rfl⟩ | ⟨hflags, -⟩ := step_rejects_or_followsOk hrst hstep
  · refine ⟨fun _ hup => errFlag_setErrFlag_of_errFlag e hup, fun hok => ?_⟩
    exact absurd (hok ⟨rspCode e, 0⟩ (by simp)) (rspCode_ne_zero e)
  · exact ⟨fun _ hup => hflags ▸ hup, fun _ => hflags⟩

end Sys2Proof.Machine

/-! ## Proofs of the reset and hazards family: the reset edge, a stalled FILL, a zero symbol step (R190, R196, R199) -/

namespace Sys2Proof.Machine

/-- Settles O8: the reset edge is the reset state around the host's lines; its free store contents are the two witnesses. -/
theorem resetEdgeClearsEveryVariable : Obligations.ResetEdgeClearsEveryVariable :=
  fun s hrst => ⟨(resetEdge s).ftab, (resetEdge s).stab, step_of_reset hrst⟩

/-- Settles O27: the stalled loop is exactly `k` turns, each of which emits one beat and uses up one the host takes. -/
theorem stalledFillWaits : Obligations.StalledFillWaits := by
  intro s count k hready htakes hk
  have htakes' : (fillArm count s).hostTakes = some k := (fillArm_hostTakes count s).trans htakes
  obtain ⟨hloop, hleft⟩ := fillLoop_of_stall htakes' hk
  obtain ⟨bs, hbeats, hlast⟩ := fillTurn_iterate_beats (s := fillArm count s) k hk.le
  refine ⟨_, bs, exec_fill_ready hready count, ?_, by simpa using congrArg List.length hlast, hleft, ?_, ?_⟩
  · rw [hloop, hbeats]
    exact congrArg (· ++ bs) (schedule_beats s)
  · rw [hloop, fillTurn_iterate_responses]
    exact schedule_responses s
  · rw [hloop, fillTurn_iterate_hostTakes_some k htakes', Nat.sub_self]

/-! ### A symbol step of 0 (R196) -/

/-- Adding a step of 0 never carries (R128). -/
theorem symbolWraps_of_zero_step {s : State} (hstep : s.symbolStep = 0) : symbolWraps s = false := by
  simp [symbolWraps, hstep, BitVec.ult]

/-- A transmitting turn without a wrap moves the scheduler by its phase accumulator alone (R126). -/
theorem fillTurn_of_zero_step {s : State} (hactive : s.active = true) (hstep : s.symbolStep = 0) :
    (fillTurn s).active = true ∧ (fillTurn s).symbolIndex = s.symbolIndex ∧ (fillTurn s).freq = s.freq ∧
      (fillTurn s).phase = s.phase + s.freq := by
  simp [fillTurn_transmitting hactive, nextSymbol, symbolWraps_of_zero_step hstep]

theorem fillTurn_iterate_symbolStep (n : Nat) (s : State) : (fillTurn^[n] s).symbolStep = s.symbolStep := by
  induction n with
  | zero => rfl
  | succ n ih => rw [Function.iterate_succ_apply', fillTurn_symbolStep, ih]

/-- With a step of 0 the tone holds and the phase accumulates, however many turns run (R196). -/
theorem fillTurn_iterate_of_zero_step {s : State} (hactive : s.active = true) (hstep : s.symbolStep = 0) (n : Nat) :
    (fillTurn^[n] s).active = true ∧ (fillTurn^[n] s).symbolIndex = s.symbolIndex ∧ (fillTurn^[n] s).freq = s.freq ∧
      (fillTurn^[n] s).phase = s.phase + BitVec.ofNat 64 n * s.freq := by
  induction n with
  | zero => simp [hactive]
  | succ n ih =>
    obtain ⟨ihactive, ihindex, ihfreq, ihphase⟩ := ih
    obtain ⟨hactive', hindex, hfreq, hphase⟩ :=
      fillTurn_of_zero_step ihactive ((fillTurn_iterate_symbolStep n s).trans hstep)
    rw [Function.iterate_succ_apply']
    refine ⟨hactive', hindex.trans ihindex, hfreq.trans ihfreq, ?_⟩
    rw [hphase, ihphase, ihfreq, BitVec.ofNat_add, BitVec.add_mul, BitVec.one_mul, BitVec.add_assoc]

/-- Settles O32: `count` turns that never meet a symbol boundary, then the response. -/
theorem zeroStepFrameNeverEnds : Obligations.ZeroStepFrameNeverEnds := by
  intro s count hready hactive hstep htakes
  obtain ⟨hactive', hindex, hfreq, hphase⟩ :=
    fillTurn_iterate_of_zero_step (s := { s with fillRemaining := count }) hactive hstep count.toNat
  refine ⟨_, fillRunsCountSamples s count hready htakes, ?_⟩
  rw [schedule_of_active hactive]
  refine ⟨hactive', hindex, hfreq, hphase, ?_⟩
  rw [respond_responses, fillTurn_iterate_responses]

end Sys2Proof.Machine
